-- ==== Sys2Proof/Word.lean ====
section
/-! DEFINITION. The fixed widths of the engine's data (00_scope R6, R8). -/

namespace Sys2Proof

/-- One payload byte, a register id, a mode byte or an ack byte. -/
abbrev Byte := BitVec 8

/-- A 32-bit register value, timeout or clock reading; CLOCK_BITS is 32 (92_eei_decisions D9). -/
abbrev Word := BitVec 32

/-- An 11-bit CAN identifier (00_scope R6, ID_BITS). -/
abbrev Ident := BitVec 11

end Sys2Proof
end

