-- ==== Sys2Proof/Syntax.lean ====
section
/-! DEFINITION. The formats of the two host ports and of the wire, the environment's script, and
`Instr`: one constructor per row of spec/opcode_table.json. -/

namespace Sys2Proof

/-- The four telemetry kinds (43_telemetry_ops R240). -/
inductive Kind where
  | accel
  | gyro
  | euler
  | quat
deriving DecidableEq, Repr, Inhabited

/-- The codes of an accelerometer frame: cache group ACCEL (10_state R22). -/
structure AccelCodes where
  temp : Byte
  x : BitVec 16
  y : BitVec 16
  z : BitVec 16
deriving DecidableEq, Repr

/-- The codes of a gyroscope frame: cache group GYRO (10_state R22). -/
structure GyroCodes where
  x : BitVec 16
  y : BitVec 16
  z : BitVec 16
deriving DecidableEq, Repr

/-- The codes of an Euler frame in wire order: cache group EULER (10_state R22). -/
structure EulerCodes where
  pitch : BitVec 16
  yaw : BitVec 16
  roll : BitVec 16
deriving DecidableEq, Repr

/-- The codes of a quaternion frame: cache group QUAT (10_state R22). -/
structure QuatCodes where
  w : BitVec 14
  x : BitVec 14
  y : BitVec 14
  z : BitVec 14
deriving DecidableEq, Repr

/-- The codes one telemetry frame carries, by kind. -/
inductive Telemetry where
  | accel (c : AccelCodes)
  | gyro (c : GyroCodes)
  | euler (c : EulerCodes)
  | quat (c : QuatCodes)
deriving DecidableEq, Repr

/-- The 14 code registers, named by the cache read port (10_state R25). -/
inductive CacheReg where
  | temp
  | accX
  | accY
  | accZ
  | gyrX
  | gyrY
  | gyrZ
  | eulRoll
  | eulPitch
  | eulYaw
  | quatW
  | quatX
  | quatY
  | quatZ
deriving DecidableEq, Repr

/-- An 8-byte payload, in the order the bytes travel (00_scope R9). -/
structure Payload where
  d0 : Byte
  d1 : Byte
  d2 : Byte
  d3 : Byte
  d4 : Byte
  d5 : Byte
  d6 : Byte
  d7 : Byte
deriving DecidableEq, Repr

/-- Format F-CAN (30_encoding R91): an identifier and up to 8 payload bytes. The payload length is
the length of `data`, so that a byte beyond it does not exist (00_scope R9; log entry 15). -/
structure Frame where
  id : Ident
  data : List Byte
  len_le : data.length ≤ 8
deriving DecidableEq, Repr

/-- Format F-HOST (30_encoding R104): the triple (OPC : u6, ARG : u32, TMO : u32). -/
structure HostCmd where
  opc : BitVec 6
  arg : Word
  tmo : Word
deriving DecidableEq, Repr

/-- What is read at one of the block's ports, before decoding: the port fixes the format. -/
inductive PortWord where
  /-- a command at the host command port, format F-HOST -/
  | hostCommand (c : HostCmd)
  /-- an address at the cache read port, format F-CACHE -/
  | cacheAddress (a : BitVec 4)
  /-- the payload of a frame going out to the device, format F-PAY -/
  | sendPayload (d : Payload)
  /-- the payload of a frame coming in from the device, format F-PAY -/
  | receivePayload (d : Payload)
deriving DecidableEq, Repr

/-- What the host does in one turn: nothing, present a command, or read the cache. -/
inductive HostMove where
  | wait
  | command (c : HostCmd)
  | readCache (a : BitVec 4)
deriving DecidableEq, Repr, Inhabited

/-- One turn of the environment between two steps (00_scope R7, R11; the events `clk`, `rx` and `tx`
of 30_encoding R114): the milliseconds that pass, how many waiting frames another reader of the
transport takes (10_state R41, 70_reset R326), the frames that arrive, the answer of the next TxSend, and
the host's move. -/
structure Turn where
  elapse : Nat
  taken : Nat
  arrivals : List Frame
  txAnswer : Int
  host : HostMove
deriving DecidableEq, Repr, Inhabited

/-- Which primitive an operation runs (10_state R29, REQ_KIND). -/
inductive ReqKind where
  | read
  | write
  | reqTlm
  | readTlm
  | poll
deriving DecidableEq, Repr, Inhabited

/-- The primitives of 40_protocol_engine that a host operation expands to (30_encoding R104), with
the register and the value they name; the timeout is the operation's TMO. -/
inductive Primitive where
  | readRegister (reg : Byte)
  | writeRegister (reg : Byte) (value : Word)
  | requestTelemetry (reg : Byte)
  | readTelemetry (reg : Byte)
  | poll
deriving DecidableEq, Repr

/-- The instructions: 28 host operations (30_encoding R104), 14 cache reads (10_state R25) and 7
frame classes (30_encoding R93 to R99). TMO is an operand of every host operation, since the issue
step latches it for each of them (40_protocol_engine R131); POLL and REQUEST_x do not use it
(log entry 25). An ARG that an operation ignores is no operand. -/
inductive Instr where
  | poll (tmo : Word)
  | requestAccel (tmo : Word)
  | requestGyro (tmo : Word)
  | requestEuler (tmo : Word)
  | requestQuat (tmo : Word)
  | readAccel (tmo : Word)
  | readGyro (tmo : Word)
  | readEuler (tmo : Word)
  | readQuat (tmo : Word)
  | getComPort (tmo : Word)
  | setComPort (arg tmo : Word)
  | getCanBaud (tmo : Word)
  | setCanBaud (arg tmo : Word)
  | getMasterId (tmo : Word)
  | setMasterId (arg tmo : Word)
  | getSlaveId (tmo : Word)
  | setSlaveId (arg tmo : Word)
  | getActiveMode (tmo : Word)
  | setActiveMode (arg tmo : Word)
  | getActiveDelay (tmo : Word)
  | setActiveDelay (arg tmo : Word)
  | getOutputSelection (tmo : Word)
  | calAccel (tmo : Word)
  | calGyro (tmo : Word)
  | calMag (tmo : Word)
  | setZero (tmo : Word)
  | reboot (tmo : Word)
  | saveParameters (tmo : Word)
  | getTemperature
  | getAccelX
  | getAccelY
  | getAccelZ
  | getGyroX
  | getGyroY
  | getGyroZ
  | getRoll
  | getPitch
  | getYaw
  | getQuatW
  | getQuatX
  | getQuatY
  | getQuatZ
  | cmdRead (reg : Byte)
  | cmdWrite (reg : Byte) (value : Word)
  | ack (reg ask : Byte) (value : Word)
  | tlmAccel (temp : Byte) (x y z : BitVec 16)
  | tlmGyro (unused : Byte) (x y z : BitVec 16)
  | tlmEuler (unused : Byte) (pitch yaw roll : BitVec 16)
  | tlmQuat (w x y z : BitVec 14)
deriving DecidableEq, Repr

end Sys2Proof
end

