-- ==== Sys2Proof/Config.lean ====
section
/-! DEFINITION. What an implementation fixes (00_scope R6) and the free values: constants without a
body, so that no proof can use a number for them. -/

namespace Sys2Proof

/-- Which frame the transport loses when its receive queue is full: the one that arrives, or the one
that has waited longest (91_not_in_source N8; log entry 16). -/
inductive Overflow where
  | dropNewest
  | dropOldest
deriving DecidableEq, Repr, Inhabited

/-- RX_CAPACITY (00_scope R6): the depth of the transport's receive queue, none for a queue without a
bound, and its overflow policy (log entry 16). -/
structure RxCapacity where
  depth : Option Nat
  overflow : Overflow
deriving DecidableEq, Repr, Inhabited

/-- The open parameters of 00_scope R6 that a step reads. They are wiring, fixed for the
life of an engine (10_state R40); State carries them so that a statement about every state is a
statement about every value of them (log entry 1). -/
structure Params where
  ridReboot : Byte
  ridAccel : Byte
  ridGyro : Byte
  ridEuler : Byte
  ridQuat : Byte
  ridZero : Byte
  ridCalAccel : Byte
  ridCalGyro : Byte
  ridCalMag : Byte
  ridComPort : Byte
  ridActiveDelay : Byte
  ridActiveMode : Byte
  ridCanBaud : Byte
  ridSlaveId : Byte
  ridMasterId : Byte
  ridOutputSel : Byte
  ackSuccess : Byte
  ackRegisterNotExist : Byte
  ackInvalidData : Byte
  ackOperationFailed : Byte
  comUsb : Word
  comRs485 : Word
  comCan : Word
  comVofa : Word
  baud1M : Word
  baud500K : Word
  baud400K : Word
  baud250K : Word
  baud200K : Word
  baud100K : Word
  baud50K : Word
  baud25K : Word
  trigCalAccel : Word
  trigCalGyro : Word
  trigCalMag : Word
  trigZero : Word
  trigReboot : Word
  trigSave : Word
  mstWriteback : Bool
  rxCapacity : RxCapacity
deriving DecidableEq, Repr

/-- The 16 register slots (30_encoding R101), in the order of the table of R102. -/
def Params.slots (p : Params) : List Byte :=
  [p.ridReboot, p.ridAccel, p.ridGyro, p.ridEuler, p.ridQuat, p.ridZero, p.ridCalAccel,
   p.ridCalGyro, p.ridCalMag, p.ridComPort, p.ridActiveDelay, p.ridActiveMode, p.ridCanBaud,
   p.ridSlaveId, p.ridMasterId, p.ridOutputSel]

/-- The four ack codes (30_encoding R107). -/
def Params.acks (p : Params) : List Byte :=
  [p.ackSuccess, p.ackRegisterNotExist, p.ackInvalidData, p.ackOperationFailed]

/-- The four COM port codes (30_encoding R108). -/
def Params.coms (p : Params) : List Word :=
  [p.comUsb, p.comRs485, p.comCan, p.comVofa]

/-- The eight baud-rate codes (30_encoding R108). -/
def Params.bauds (p : Params) : List Word :=
  [p.baud1M, p.baud500K, p.baud400K, p.baud250K, p.baud200K, p.baud100K, p.baud50K, p.baud25K]

/-- The constraints of 00_scope R6: the 16 slots are a bijection onto 0x00 to 0x0F (16 distinct ids
below 16); ack, COM and baud codes are pairwise distinct. -/
abbrev Params.wf (p : Params) : Prop :=
  p.slots.Nodup ∧ (∀ r ∈ p.slots, r < 16#8) ∧ p.acks.Nodup ∧ p.coms.Nodup ∧ p.bauds.Nodup

namespace Config

/-- RID_SAVE (00_scope R6). -/
def ridSave : Byte := 0xFE

/-- RID_RESTORE (00_scope R6): known, written by no operation (44_maintenance_ops R267). -/
def ridRestore : Byte := 0xFF

/-- MARK0 (00_scope R6). -/
def mark0 : Byte := 0xCC

/-- MARK3 (00_scope R6). -/
def mark3 : Byte := 0xDD

/-- MODE_READ (00_scope R6, 30_encoding R116). -/
def modeRead : Byte := 0

/-- MODE_WRITE (00_scope R6, 30_encoding R116). -/
def modeWrite : Byte := 1

/-- DEFAULT_TIMEOUT, what a host passes in TMO when it has no other value (00_scope R6, 92 D33). -/
def defaultTimeout : Word := 30

/-- DESIGN CHOICE (form): the open register ids as a free permutation of the 16 slots, so that the
bijection of 00_scope R6 holds by construction (log entry 1). -/
opaque slotOrder : Equiv.Perm (Fin 16)

/-- DESIGN CHOICE (form): the open ack codes as the images of 0 to 3 under a free permutation of all
bytes; every choice of four distinct bytes is one (log entry 1). -/
opaque ackOrder : Equiv.Perm (BitVec 8)

/-- DESIGN CHOICE (form): the open COM port codes, the images of 0 to 3 (log entry 1). -/
opaque comOrder : Equiv.Perm (BitVec 32)

/-- DESIGN CHOICE (form): the open baud codes, the images of 0 to 7 (log entry 1). -/
opaque baudOrder : Equiv.Perm (BitVec 32)

/-- TRIG_VALUE of the six trigger registers, numbered 0 to 5: free values (00_scope R6, 92 D18). -/
opaque trigValue : Fin 6 → BitVec 32

/-- MST_WRITEBACK: free (00_scope R6, 92 D17). -/
opaque mstWriteback : Bool

/-- RX_CAPACITY: free, with no constraint (00_scope R6, 92 D28; log entry 16). -/
opaque rxCapacity : RxCapacity

/-- RST_MASTER_ID, a construction argument: free (00_scope R6; log entry 2). -/
opaque rstMasterId : BitVec 11

/-- RST_SLAVE_ID, a construction argument: free (00_scope R6; log entry 2). -/
opaque rstSlaveId : BitVec 11

/-- REQ_OPC right after reset (log entry 3). -/
opaque resetReqOpc : BitVec 6

/-- REQ_KIND right after reset (log entry 3). -/
opaque resetReqKind : ReqKind

/-- REQ_REG right after reset (log entry 3). -/
opaque resetReqReg : BitVec 8

/-- REQ_MODE right after reset (log entry 3). -/
opaque resetReqMode : BitVec 8

/-- REQ_VALUE right after reset (log entry 3). -/
opaque resetReqValue : BitVec 32

/-- REQ_TMO right after reset (log entry 3). -/
opaque resetReqTmo : BitVec 32

/-- T_START right after reset (log entry 3). -/
opaque resetTStart : BitVec 32

/-- POLL_HIT right after reset (log entry 3). -/
opaque resetPollHit : Bool

/-- The frames that have arrived at the transport, unread, when the engine is constructed; those that
RX_CAPACITY lets it hold wait in its receive queue (70_reset R322; log entry 4). -/
opaque rxAtConstruction : List Frame

/-- The true time in milliseconds when the engine is constructed (log entry 4). -/
opaque timeAtConstruction : Nat

/-- What the transport would answer to a TxSend at construction; no step reads it before a turn has
replaced it (log entry 4). -/
opaque txAnswerAtConstruction : Int

/-- The `n`-th free draw of a cache code (10_state R23, 93 U1; log entry 5). -/
opaque freeCode : Nat → BitVec 16

/-- The `n`-th free draw of a byte of a POLL's latch (40_protocol_engine R131; log entry 6). -/
opaque freeByte : Nat → BitVec 8

/-- The `n`-th free draw of the REQ_VALUE of a POLL's latch (40_protocol_engine R131; log
entry 6). -/
opaque freeWord : Nat → BitVec 32

/-- The `n`-th turn of the environment once the script is used up (00_scope R7; log entry 7). -/
opaque freeTurn : Nat → Turn

/-- FP_RENDER (41_telemetry_codec R183): the value the rendered number stands for, as a function of
the exact rational alone (FP_FUN) that is non-decreasing (FP_MONO) (log entry 18). -/
opaque fpRender : Rat →o Rat

/-- The open parameters as one free constant that meets the constraints of 00_scope R6. -/
def params : Params where
  ridReboot := BitVec.ofFin (slotOrder 0 |>.castLE (by decide))
  ridAccel := BitVec.ofFin (slotOrder 1 |>.castLE (by decide))
  ridGyro := BitVec.ofFin (slotOrder 2 |>.castLE (by decide))
  ridEuler := BitVec.ofFin (slotOrder 3 |>.castLE (by decide))
  ridQuat := BitVec.ofFin (slotOrder 4 |>.castLE (by decide))
  ridZero := BitVec.ofFin (slotOrder 5 |>.castLE (by decide))
  ridCalAccel := BitVec.ofFin (slotOrder 6 |>.castLE (by decide))
  ridCalGyro := BitVec.ofFin (slotOrder 7 |>.castLE (by decide))
  ridCalMag := BitVec.ofFin (slotOrder 8 |>.castLE (by decide))
  ridComPort := BitVec.ofFin (slotOrder 9 |>.castLE (by decide))
  ridActiveDelay := BitVec.ofFin (slotOrder 10 |>.castLE (by decide))
  ridActiveMode := BitVec.ofFin (slotOrder 11 |>.castLE (by decide))
  ridCanBaud := BitVec.ofFin (slotOrder 12 |>.castLE (by decide))
  ridSlaveId := BitVec.ofFin (slotOrder 13 |>.castLE (by decide))
  ridMasterId := BitVec.ofFin (slotOrder 14 |>.castLE (by decide))
  ridOutputSel := BitVec.ofFin (slotOrder 15 |>.castLE (by decide))
  ackSuccess := ackOrder 0
  ackRegisterNotExist := ackOrder 1
  ackInvalidData := ackOrder 2
  ackOperationFailed := ackOrder 3
  comUsb := comOrder 0
  comRs485 := comOrder 1
  comCan := comOrder 2
  comVofa := comOrder 3
  baud1M := baudOrder 0
  baud500K := baudOrder 1
  baud400K := baudOrder 2
  baud250K := baudOrder 3
  baud200K := baudOrder 4
  baud100K := baudOrder 5
  baud50K := baudOrder 6
  baud25K := baudOrder 7
  trigCalAccel := trigValue 0
  trigCalGyro := trigValue 1
  trigCalMag := trigValue 2
  trigZero := trigValue 3
  trigReboot := trigValue 4
  trigSave := trigValue 5
  mstWriteback := mstWriteback
  rxCapacity := rxCapacity

end Config

end Sys2Proof
end

