-- ==== Sys2Proof/WellFormed.lean ====
section
/-! DEFINITION. Which instructions are well formed: a setter's ARG is in its domain (30_encoding
R111), and a command frame is one that some operation can send (30_encoding R110, R112;
44_maintenance_ops R267, R268). An ill-formed setter still runs: it completes REFUSED. -/

namespace Sys2Proof

/-- The registers some operation reads: the configuration registers with a getter and the four
telemetry registers (10_state R36). -/
def Params.readable (p : Params) : List Byte :=
  [p.ridAccel, p.ridGyro, p.ridEuler, p.ridQuat, p.ridComPort, p.ridCanBaud, p.ridMasterId,
   p.ridSlaveId, p.ridActiveMode, p.ridActiveDelay, p.ridOutputSel]

/-- The values that some operation writes to a register (10_state R37, 44_maintenance_ops R260);
false for a register that no operation writes. -/
def Params.writes (p : Params) (reg : Byte) (value : Word) : Bool :=
  (reg == p.ridComPort && p.coms.contains value) ||
  (reg == p.ridCanBaud && p.bauds.contains value) ||
  (reg == p.ridMasterId && decide (value ≤ 0x7FF#32)) ||
  (reg == p.ridSlaveId && decide (value ≤ 0x7FF#32)) ||
  (reg == p.ridActiveMode && decide (value ≤ 1#32)) ||
  (reg == p.ridActiveDelay && decide (1#32 ≤ value ∧ value ≤ 1000#32)) ||
  (reg == p.ridCalAccel && value == p.trigCalAccel) ||
  (reg == p.ridCalGyro && value == p.trigCalGyro) ||
  (reg == p.ridCalMag && value == p.trigCalMag) ||
  (reg == p.ridZero && value == p.trigZero) ||
  (reg == p.ridReboot && value == p.trigReboot) ||
  (reg == Config.ridSave && value == p.trigSave)

/-- Well-formedness of an instruction under the parameters in force. -/
def wellFormed (p : Params) : Instr → Bool
  | .setComPort arg _ => p.coms.contains arg
  | .setCanBaud arg _ => p.bauds.contains arg
  | .setMasterId arg _ => decide (arg ≤ 0x7FF#32)
  | .setSlaveId arg _ => decide (arg ≤ 0x7FF#32)
  | .setActiveMode arg _ => decide (arg ≤ 1#32)
  | .setActiveDelay arg _ => decide (1#32 ≤ arg ∧ arg ≤ 1000#32)
  | .cmdRead reg => p.readable.contains reg
  | .cmdWrite reg value => p.writes reg value
  | .poll _ | .requestAccel _ | .requestGyro _ | .requestEuler _ | .requestQuat _ => true
  | .readAccel _ | .readGyro _ | .readEuler _ | .readQuat _ => true
  | .getComPort _ | .getCanBaud _ | .getMasterId _ | .getSlaveId _ | .getActiveMode _ => true
  | .getActiveDelay _ | .getOutputSelection _ => true
  | .calAccel _ | .calGyro _ | .calMag _ | .setZero _ | .reboot _ | .saveParameters _ => true
  | .getTemperature | .getAccelX | .getAccelY | .getAccelZ | .getGyroX | .getGyroY => true
  | .getGyroZ | .getRoll | .getPitch | .getYaw | .getQuatW | .getQuatX | .getQuatY => true
  | .getQuatZ | .ack _ _ _ | .tlmAccel _ _ _ _ | .tlmGyro _ _ _ _ | .tlmEuler _ _ _ _ => true
  | .tlmQuat _ _ _ _ => true

end Sys2Proof
end

