-- ==== Sys2Proof/Decode.lean ====
section
/-! DEFINITION. Decoding and encoding at the ports: field access in a payload (20_memory R61 to R63),
classification of a received payload (30_encoding R100), the host command word (R104), the cache
address (R106), and the encoder. -/

namespace Sys2Proof

/-- Why a word at a port is no instruction. -/
inductive DecodeError where
  /-- a reserved OPC (30_encoding R111): the step completes REFUSED -/
  | reservedOpcode (opc : BitVec 6)
  /-- CADDR 14 or 15 (10_state R25): the step refuses the read -/
  | reservedCacheAddress (a : BitVec 4)
  /-- a payload the engine never sends (30_encoding R110) -/
  | noCommand (d : Payload)
  /-- a received payload of class OTHER (30_encoding R100): it is discarded -/
  | unrecognised (d : Payload)
deriving DecidableEq, Repr

/-! ## Field access -/

/-- Two bytes as a 16-bit field, high byte first (20_memory R62). -/
def be16 (hi lo : Byte) : BitVec 16 :=
  hi.setWidth 16 <<< 8 ||| lo.setWidth 16

/-- The 32-bit data field of a payload, low byte first (20_memory R61). -/
def Payload.le32 (d : Payload) : Word :=
  d.d4.setWidth 32 ||| d.d5.setWidth 32 <<< 8 ||| d.d6.setWidth 32 <<< 16 ||| d.d7.setWidth 32 <<< 24

/-- Byte `k` of a 32-bit value, byte 0 the least significant (20_memory R61). -/
def wordByte (v : Word) (k : Nat) : Byte :=
  v.extractLsb' (8 * k) 8

/-- The payload word P, D[0] most significant (00_scope R9). -/
def Payload.word (d : Payload) : BitVec 64 :=
  d.d0.setWidth 64 <<< 56 ||| d.d1.setWidth 64 <<< 48 ||| d.d2.setWidth 64 <<< 40 |||
  d.d3.setWidth 64 <<< 32 ||| d.d4.setWidth 64 <<< 24 ||| d.d5.setWidth 64 <<< 16 |||
  d.d6.setWidth 64 <<< 8 ||| d.d7.setWidth 64

/-- The payload whose payload word is `w` (00_scope R9). -/
def Payload.ofWord (w : BitVec 64) : Payload where
  d0 := w.extractLsb' 56 8
  d1 := w.extractLsb' 48 8
  d2 := w.extractLsb' 40 8
  d3 := w.extractLsb' 32 8
  d4 := w.extractLsb' 24 8
  d5 := w.extractLsb' 16 8
  d6 := w.extractLsb' 8 8
  d7 := w.extractLsb' 0 8

/-- The payload bytes in the order they travel (00_scope R9). -/
def Payload.bytes (d : Payload) : List Byte :=
  [d.d0, d.d1, d.d2, d.d3, d.d4, d.d5, d.d6, d.d7]

/-- The frame with an identifier and all 8 payload bytes (30_encoding R91). -/
def Payload.frame (d : Payload) (id : Ident) : Frame :=
  ⟨id, d.bytes, Nat.le_refl 8⟩

/-- The payload of a frame of length 8; none for a short frame, of which nothing is read
(20_memory R66). -/
def Frame.payload (f : Frame) : Option Payload :=
  match f.data with
  | [d0, d1, d2, d3, d4, d5, d6, d7] => some ⟨d0, d1, d2, d3, d4, d5, d6, d7⟩
  | _ => none

/-! ## The telemetry fields (41_telemetry_codec R185 to R188) -/

/-- DEC.ACCEL (41_telemetry_codec R185). -/
def accelCodes (d : Payload) : AccelCodes :=
  ⟨d.d1, be16 d.d2 d.d3, be16 d.d4 d.d5, be16 d.d6 d.d7⟩

/-- DEC.GYRO (41_telemetry_codec R186): D[1] is not read. -/
def gyroCodes (d : Payload) : GyroCodes :=
  ⟨be16 d.d2 d.d3, be16 d.d4 d.d5, be16 d.d6 d.d7⟩

/-- DEC.EULER (41_telemetry_codec R187): wire order pitch, yaw, roll; D[1] is not read. -/
def eulerCodes (d : Payload) : EulerCodes :=
  ⟨be16 d.d2 d.d3, be16 d.d4 d.d5, be16 d.d6 d.d7⟩

/-- DEC.QUAT (41_telemetry_codec R188): the shifts and masks as tabulated. -/
def quatCodes (d : Payload) : QuatCodes where
  w := d.d1.setWidth 14 <<< 6 ||| (d.d2.setWidth 14 >>> 2 &&& 0x3F#14)
  x := (d.d2.setWidth 14 &&& 0x03#14) <<< 12 ||| d.d3.setWidth 14 <<< 4 |||
    (d.d4.setWidth 14 >>> 4 &&& 0x0F#14)
  y := (d.d4.setWidth 14 &&& 0x0F#14) <<< 10 ||| d.d5.setWidth 14 <<< 2 |||
    (d.d6.setWidth 14 >>> 6 &&& 0x03#14)
  z := (d.d6.setWidth 14 &&& 0x3F#14) <<< 8 ||| d.d7.setWidth 14

/-- Decode(k, D) without the write: the codes a payload carries for a kind (41_telemetry_codec
R184). -/
def decodeTelemetry (k : Kind) (d : Payload) : Telemetry :=
  match k with
  | .accel => .accel (accelCodes d)
  | .gyro => .gyro (gyroCodes d)
  | .euler => .euler (eulerCodes d)
  | .quat => .quat (quatCodes d)

/-! ## Classification of a received frame (30_encoding R100) -/

/-- The register id of a telemetry kind (43_telemetry_ops R240). -/
def Params.ridOf (p : Params) : Kind → Byte
  | .accel => p.ridAccel
  | .gyro => p.ridGyro
  | .euler => p.ridEuler
  | .quat => p.ridQuat

/-- The classes of a received frame. -/
inductive Received where
  | foreign
  | short
  | ack (reg ask : Byte) (value : Word)
  | telemetry (k : Kind) (d : Payload)
  | other
deriving DecidableEq, Repr

/-- The part of Classify that looks at the payload, in the order of 30_encoding R100. -/
def classifyPayload (p : Params) (d : Payload) : Received :=
  if d.d0 = Config.mark0 ∧ d.d3 = Config.mark3 then .ack d.d1 d.d2 d.le32
  else if d.d0 = p.ridAccel then .telemetry .accel d
  else if d.d0 = p.ridGyro then .telemetry .gyro d
  else if d.d0 = p.ridEuler then .telemetry .euler d
  else if d.d0 = p.ridQuat then .telemetry .quat d
  else .other

/-- Classify (30_encoding R100), with the MASTER_ID in force at the step. -/
def classify (p : Params) (masterId : Ident) (f : Frame) : Received :=
  if f.id ≠ masterId then .foreign
  else match f.payload with
    | none => .short
    | some d => classifyPayload p d

/-! ## The decoder -/

/-- A command at the host port (30_encoding R104); the reserved opcodes of R111 are rejected. -/
def decodeHost (c : HostCmd) : Except DecodeError Instr :=
  match c.opc.toNat with
  | 0x00 => .ok (.poll c.tmo)
  | 0x01 => .ok (.requestAccel c.tmo)
  | 0x02 => .ok (.requestGyro c.tmo)
  | 0x03 => .ok (.requestEuler c.tmo)
  | 0x04 => .ok (.requestQuat c.tmo)
  | 0x05 => .ok (.readAccel c.tmo)
  | 0x06 => .ok (.readGyro c.tmo)
  | 0x07 => .ok (.readEuler c.tmo)
  | 0x08 => .ok (.readQuat c.tmo)
  | 0x10 => .ok (.getComPort c.tmo)
  | 0x11 => .ok (.setComPort c.arg c.tmo)
  | 0x12 => .ok (.getCanBaud c.tmo)
  | 0x13 => .ok (.setCanBaud c.arg c.tmo)
  | 0x14 => .ok (.getMasterId c.tmo)
  | 0x15 => .ok (.setMasterId c.arg c.tmo)
  | 0x16 => .ok (.getSlaveId c.tmo)
  | 0x17 => .ok (.setSlaveId c.arg c.tmo)
  | 0x18 => .ok (.getActiveMode c.tmo)
  | 0x19 => .ok (.setActiveMode c.arg c.tmo)
  | 0x1A => .ok (.getActiveDelay c.tmo)
  | 0x1B => .ok (.setActiveDelay c.arg c.tmo)
  | 0x1C => .ok (.getOutputSelection c.tmo)
  | 0x20 => .ok (.calAccel c.tmo)
  | 0x21 => .ok (.calGyro c.tmo)
  | 0x22 => .ok (.calMag c.tmo)
  | 0x23 => .ok (.setZero c.tmo)
  | 0x24 => .ok (.reboot c.tmo)
  | 0x25 => .ok (.saveParameters c.tmo)
  | _ => .error (.reservedOpcode c.opc)

/-- An address at the cache read port (10_state R25); 14 and 15 are rejected. -/
def decodeCache (a : BitVec 4) : Except DecodeError Instr :=
  match a.toNat with
  | 0 => .ok .getTemperature
  | 1 => .ok .getAccelX
  | 2 => .ok .getAccelY
  | 3 => .ok .getAccelZ
  | 4 => .ok .getGyroX
  | 5 => .ok .getGyroY
  | 6 => .ok .getGyroZ
  | 7 => .ok .getRoll
  | 8 => .ok .getPitch
  | 9 => .ok .getYaw
  | 10 => .ok .getQuatW
  | 11 => .ok .getQuatX
  | 12 => .ok .getQuatY
  | 13 => .ok .getQuatZ
  | _ => .error (.reservedCacheAddress a)

/-- The payload of a frame going out: CMD.READ (30_encoding R93, data sent as 0) or CMD.WRITE
(R94); nothing else is ever sent (R110). -/
def decodeSend (d : Payload) : Except DecodeError Instr :=
  if d.d0 = Config.mark0 ∧ d.d3 = Config.mark3 then
    if d.d2 = Config.modeRead ∧ d.le32 = 0#32 then .ok (.cmdRead d.d1)
    else if d.d2 = Config.modeWrite then .ok (.cmdWrite d.d1 d.le32)
    else .error (.noCommand d)
  else .error (.noCommand d)

/-- The payload of a frame coming in: ACK (30_encoding R95) or one of the four telemetry classes
(R96 to R99), by the classification of R100. -/
def decodeReceive (p : Params) (d : Payload) : Except DecodeError Instr :=
  match classifyPayload p d with
  | .ack reg ask value => .ok (.ack reg ask value)
  | .telemetry k e =>
    match decodeTelemetry k e with
    | .accel c => .ok (.tlmAccel c.temp c.x c.y c.z)
    | .gyro c => .ok (.tlmGyro e.d1 c.x c.y c.z)
    | .euler c => .ok (.tlmEuler e.d1 c.pitch c.yaw c.roll)
    | .quat c => .ok (.tlmQuat c.w c.x c.y c.z)
  | .foreign | .short | .other => .error (.unrecognised d)

/-- The decoder: the port says which format the word has. -/
def decode (p : Params) : PortWord → Except DecodeError Instr
  | .hostCommand c => decodeHost c
  | .cacheAddress a => decodeCache a
  | .sendPayload d => decodeSend d
  | .receivePayload d => decodeReceive p d

/-! ## The encoder -/

/-- The payload of BuildCommand (40_protocol_engine R132). -/
def commandPayload (reg mode : Byte) (value : Word) : Payload :=
  ⟨Config.mark0, reg, mode, Config.mark3, wordByte value 0, wordByte value 1, wordByte value 2,
    wordByte value 3⟩

/-- The payload of a response frame (30_encoding R95). -/
def ackPayload (reg ask : Byte) (value : Word) : Payload :=
  ⟨Config.mark0, reg, ask, Config.mark3, wordByte value 0, wordByte value 1, wordByte value 2,
    wordByte value 3⟩

/-- High byte of a 16-bit field. -/
def hiByte (v : BitVec 16) : Byte :=
  v.extractLsb' 8 8

/-- Low byte of a 16-bit field. -/
def loByte (v : BitVec 16) : Byte :=
  v.extractLsb' 0 8

/-- The payload of a three-field telemetry frame (30_encoding R96 to R98). -/
def triplePayload (rid d1 : Byte) (a b c : BitVec 16) : Payload :=
  ⟨rid, d1, hiByte a, loByte a, hiByte b, loByte b, hiByte c, loByte c⟩

/-- The payload of a quaternion frame: the 56 bits of D[1] to D[7] are w, x, y, z, most significant
first (30_encoding R118). -/
def quatPayload (rid : Byte) (w x y z : BitVec 14) : Payload :=
  Payload.ofWord (rid ++ (w ++ x ++ y ++ z) : BitVec 64)

/-- A host command with its ARG and TMO (30_encoding R104). -/
def hostWord (opc : BitVec 6) (arg tmo : Word) : PortWord :=
  .hostCommand ⟨opc, arg, tmo⟩

/-- The encoder: the word of an instruction at its port. An ignored ARG is sent as 0. -/
def encode (p : Params) : Instr → PortWord
  | .poll tmo => hostWord 0x00 0 tmo
  | .requestAccel tmo => hostWord 0x01 0 tmo
  | .requestGyro tmo => hostWord 0x02 0 tmo
  | .requestEuler tmo => hostWord 0x03 0 tmo
  | .requestQuat tmo => hostWord 0x04 0 tmo
  | .readAccel tmo => hostWord 0x05 0 tmo
  | .readGyro tmo => hostWord 0x06 0 tmo
  | .readEuler tmo => hostWord 0x07 0 tmo
  | .readQuat tmo => hostWord 0x08 0 tmo
  | .getComPort tmo => hostWord 0x10 0 tmo
  | .setComPort arg tmo => hostWord 0x11 arg tmo
  | .getCanBaud tmo => hostWord 0x12 0 tmo
  | .setCanBaud arg tmo => hostWord 0x13 arg tmo
  | .getMasterId tmo => hostWord 0x14 0 tmo
  | .setMasterId arg tmo => hostWord 0x15 arg tmo
  | .getSlaveId tmo => hostWord 0x16 0 tmo
  | .setSlaveId arg tmo => hostWord 0x17 arg tmo
  | .getActiveMode tmo => hostWord 0x18 0 tmo
  | .setActiveMode arg tmo => hostWord 0x19 arg tmo
  | .getActiveDelay tmo => hostWord 0x1A 0 tmo
  | .setActiveDelay arg tmo => hostWord 0x1B arg tmo
  | .getOutputSelection tmo => hostWord 0x1C 0 tmo
  | .calAccel tmo => hostWord 0x20 0 tmo
  | .calGyro tmo => hostWord 0x21 0 tmo
  | .calMag tmo => hostWord 0x22 0 tmo
  | .setZero tmo => hostWord 0x23 0 tmo
  | .reboot tmo => hostWord 0x24 0 tmo
  | .saveParameters tmo => hostWord 0x25 0 tmo
  | .getTemperature => .cacheAddress 0
  | .getAccelX => .cacheAddress 1
  | .getAccelY => .cacheAddress 2
  | .getAccelZ => .cacheAddress 3
  | .getGyroX => .cacheAddress 4
  | .getGyroY => .cacheAddress 5
  | .getGyroZ => .cacheAddress 6
  | .getRoll => .cacheAddress 7
  | .getPitch => .cacheAddress 8
  | .getYaw => .cacheAddress 9
  | .getQuatW => .cacheAddress 10
  | .getQuatX => .cacheAddress 11
  | .getQuatY => .cacheAddress 12
  | .getQuatZ => .cacheAddress 13
  | .cmdRead reg => .sendPayload (commandPayload reg Config.modeRead 0)
  | .cmdWrite reg value => .sendPayload (commandPayload reg Config.modeWrite value)
  | .ack reg ask value => .receivePayload (ackPayload reg ask value)
  | .tlmAccel temp x y z => .receivePayload (triplePayload p.ridAccel temp x y z)
  | .tlmGyro unused x y z => .receivePayload (triplePayload p.ridGyro unused x y z)
  | .tlmEuler unused pitch yaw roll =>
    .receivePayload (triplePayload p.ridEuler unused pitch yaw roll)
  | .tlmQuat w x y z => .receivePayload (quatPayload p.ridQuat w x y z)

/-! ## Words numbered as spec/opcode_table.json numbers them -/

/-- PRESUMED (log entry 23): the bindings GK and TB of 30_encoding R102 and R103, which say nothing of
RX_CAPACITY; here no bound. The table prints the telemetry rows under GK; no meaning depends on it. -/
def exampleParams : Params where
  ridReboot := 0x00
  ridAccel := 0x01
  ridGyro := 0x02
  ridEuler := 0x03
  ridQuat := 0x04
  ridZero := 0x05
  ridCalAccel := 0x06
  ridCalGyro := 0x07
  ridCalMag := 0x08
  ridComPort := 0x09
  ridActiveDelay := 0x0A
  ridActiveMode := 0x0B
  ridCanBaud := 0x0C
  ridSlaveId := 0x0D
  ridMasterId := 0x0E
  ridOutputSel := 0x0F
  ackSuccess := 0x00
  ackRegisterNotExist := 0x01
  ackInvalidData := 0x02
  ackOperationFailed := 0x03
  comUsb := 0
  comRs485 := 1
  comCan := 2
  comVofa := 3
  baud1M := 0
  baud500K := 1
  baud400K := 2
  baud250K := 3
  baud200K := 4
  baud100K := 5
  baud50K := 6
  baud25K := 7
  trigCalAccel := 0
  trigCalGyro := 0
  trigCalMag := 0
  trigZero := 0
  trigReboot := 0
  trigSave := 0
  mstWriteback := true
  rxCapacity := ⟨none, .dropNewest⟩

/-- DESIGN CHOICE (log entry 9): the port a table word of `nbits` bits stands at. Up to 8 bits: an
OPC at the host command port (bits 5 to 0, ARG and TMO above it), or, where that OPC is reserved and
the word is below 16, a CADDR at the cache read port; up to 16 bits: a CADDR (bits 3 to 0); up to 64 bits: a payload word P,
read as a frame going out if it is a command frame and as one coming in otherwise; longer: a whole
host command. -/
def tableWord (nbits w : Nat) : PortWord :=
  let c : HostCmd := ⟨BitVec.ofNat 6 w, BitVec.ofNat 32 (w / 2 ^ 6), BitVec.ofNat 32 (w / 2 ^ 38)⟩
  let d := Payload.ofWord (BitVec.ofNat 64 w)
  if nbits ≤ 8 then
    match decodeHost c with
    | .ok _ => .hostCommand c
    | .error _ => if w < 16 then .cacheAddress (BitVec.ofNat 4 w) else .hostCommand c
  else if nbits ≤ 16 then .cacheAddress (BitVec.ofNat 4 w)
  else if nbits ≤ 64 then
    match decodeSend d with
    | .ok _ => .sendPayload d
    | .error _ => .receivePayload d
  else .hostCommand c

/-- The instruction the decoder reads from a word of spec/opcode_table.json, the telemetry register
ids being those the table prints (log entries 9 and 23). -/
def decodeTableWord (nbits w : Nat) : Option Instr :=
  match decode exampleParams (tableWord nbits w) with
  | .ok i => some i
  | .error _ => none

end Sys2Proof
end

