-- ==== Sys2Proof/Machine/Transport.lean ====
section
/-! DEFINITION. The transport's receive queue under RX_CAPACITY (00_scope R6, 92 D28): first in first
out (20_memory R75), a frame that finds it full being lost, or the frame that has waited longest; and
what another reader takes from it (70_reset R326). -/

namespace Sys2Proof.Machine

/-- The queue after one frame has arrived. A frame lost here is a frame that never arrived
(60_exceptions R298); which one it is at a full queue, the policy says (log entry 16). -/
def enqueue (c : RxCapacity) (q : List Frame) (f : Frame) : List Frame :=
  match c.depth with
  | none => q ++ [f]
  | some n =>
    if q.length < n then q ++ [f]
    else match c.overflow with
      | .dropNewest => q
      | .dropOldest => (q ++ [f]).tail

/-- The queue after frames have arrived one by one, in this order. -/
def enqueueAll (c : RxCapacity) (q arrivals : List Frame) : List Frame :=
  arrivals.foldl (enqueue c) q

/-- The queue after a turn: another reader pops as many of the oldest frames as it takes, and the engine
never sees them (10_state R41, 70_reset R326); then the turn's frames arrive. A frame that arrives and is
taken within one turn is one that never arrived (log entry 16). -/
def queueAfter (c : RxCapacity) (t : Turn) (q : List Frame) : List Frame :=
  enqueueAll c (q.drop t.taken) t.arrivals

end Sys2Proof.Machine
end

