-- ==== Sys2Proof/Machine/State.lean ====
section
/-! DEFINITION. The state of the engine and of the environment it answers to (10_state R20), the
reasons a step can stop, and the state right after reset (70_reset R320). -/

namespace Sys2Proof.Machine

/-- No event stops the engine: protocol failures are values of RESULT (60_exceptions R280, R286), and
an engine without a transport cannot be constructed (R303). So there is no fault (log entry 26). -/
inductive Fault where
deriving DecidableEq, Repr

/-- Why the model gives no meaning. All are safe: the model stops where it claims nothing. -/
inductive Refusal where
  /-- raised by an arm of `exec` whose instruction has no meaning yet; safe. No arm raises it. -/
  | notModelled (mnemonic : String)
  /-- raised by a host operation that is not the one in progress while PHASE is not IDLE: "the host
  command port is not ready and the host cannot issue" (40_protocol_engine R131; 93 U17 `refuse`);
  safe. No step raises it (log entry 12). -/
  | portNotReady
  /-- raised by a command frame outside phase TX: the transmit step is "Enabled iff PHASE = TX"
  (40_protocol_engine R133); safe. No step raises it (log entry 11). -/
  | transmitNotEnabled
  /-- raised by `step` on a cache read at CADDR 14 or 15: "a model refuses it" (10_state R25, 93 U4);
  safe (log entry 13). -/
  | reservedCacheAddress (a : BitVec 4)
deriving DecidableEq, Repr

/-- PHASE (10_state R30). -/
inductive Phase where
  | idle
  | tx
  | waitAck
  | waitTlm
  | drain
deriving DecidableEq, Repr

/-- RESULT (10_state R33): RES_TAG with RES_VALUE under OK and RES_ACK under NACK. -/
inductive OpResult where
  | none
  | ok (value : Word)
  | txFail
  | timeout
  | nack (ack : Byte)
  | refused
deriving DecidableEq, Repr

/-- The operation latch (10_state R29). -/
structure Latch where
  opc : BitVec 6
  kind : ReqKind
  reg : Byte
  mode : Byte
  value : Word
  tmo : Word
deriving DecidableEq, Repr

/-- The whole state. A cache group that is `none` has status NONE and holds no value (10_state
R23). -/
structure State where
  /-- MASTER_ID (10_state R21) -/
  masterId : Ident
  /-- SLAVE_ID (10_state R21) -/
  slaveId : Ident
  /-- group ACCEL: TEMP, ACC_X, ACC_Y, ACC_Z (10_state R22, R23) -/
  accel : Option AccelCodes
  /-- group GYRO: GYR_X, GYR_Y, GYR_Z (10_state R22, R23) -/
  gyro : Option GyroCodes
  /-- group EULER: EUL_PITCH, EUL_YAW, EUL_ROLL (10_state R22, R23) -/
  euler : Option EulerCodes
  /-- group QUAT: Q_W, Q_X, Q_Y, Q_Z (10_state R22, R23) -/
  quat : Option QuatCodes
  /-- PHASE (10_state R30) -/
  phase : Phase
  /-- the operation latch REQ_OPC, REQ_KIND, REQ_REG, REQ_MODE, REQ_VALUE, REQ_TMO (10_state R29) -/
  latch : Latch
  /-- T_START (10_state R31) -/
  tStart : Word
  /-- POLL_HIT (10_state R32) -/
  pollHit : Bool
  /-- RESULT (10_state R33) -/
  result : OpResult
  /-- the transport's receive queue, oldest frame first (10_state R39, 60_exceptions R298), filled
  under RX_CAPACITY (log entry 16) -/
  rxQueue : List Frame
  /-- the true time in milliseconds (60_exceptions R294) -/
  time : Nat
  /-- the answer of the next TxSend (60_exceptions R296) -/
  txAnswer : Int
  /-- the frames handed to the transport so far, oldest first (00_scope R10; log entry 19) -/
  sent : List Frame
  /-- the coming turns of the environment (30_encoding R114; log entry 7) -/
  script : List Turn
  /-- how many free turns have been drawn (log entry 7) -/
  turns : Nat
  /-- what the cache read port delivers in this step (10_state R25; log entry 20) -/
  cacheData : Option (BitVec 16)
  /-- how many free codes and latch bytes have been drawn (log entries 5 and 6) -/
  draws : Nat
  /-- the open parameters, written by no step (00_scope R6, 10_state R40; log entry 1) -/
  params : Params
deriving DecidableEq, Repr

/-- A step's or a meaning's answer on this machine. -/
abbrev Answer := Host.Outcome State Fault Refusal

/-- The state right after reset, which is construction (70_reset R320, 10_state R42). -/
def State.reset : State where
  masterId := Config.rstMasterId
  slaveId := Config.rstSlaveId
  accel := none
  gyro := none
  euler := none
  quat := none
  phase := .idle
  latch := ⟨Config.resetReqOpc, Config.resetReqKind, Config.resetReqReg, Config.resetReqMode,
    Config.resetReqValue, Config.resetReqTmo⟩
  tStart := Config.resetTStart
  pollHit := Config.resetPollHit
  result := .none
  rxQueue := enqueueAll Config.rxCapacity [] Config.rxAtConstruction
  time := Config.timeAtConstruction
  txAnswer := Config.txAnswerAtConstruction
  sent := []
  script := []
  turns := 0
  cacheData := none
  draws := 0
  params := Config.params

end Sys2Proof.Machine
end

