-- ==== Sys2Proof/Machine/Flags.lean ====
section
/-! DEFINITION. The status bits (10_state R34) and the views of codes and outcomes that the host
applies: BUSY, the written statuses, the tag of RESULT, ack reasons, typed values. -/

namespace Sys2Proof.Machine

/-- BUSY = (PHASE != IDLE) (10_state R30). -/
def State.busy (s : State) : Bool :=
  s.phase != .idle

/-- The written status of a cache group, true for SOME (10_state R23). -/
def State.written (s : State) : Kind → Bool
  | .accel => s.accel.isSome
  | .gyro => s.gyro.isSome
  | .euler => s.euler.isSome
  | .quat => s.quat.isSome

/-- RES_TAG (10_state R33). -/
def OpResult.tag : OpResult → BitVec 3
  | .none => 0
  | .ok _ => 1
  | .txFail => 2
  | .timeout => 3
  | .nack _ => 4
  | .refused => 5

/-- RES_VALUE, defined only under tag OK (10_state R33). -/
def OpResult.value : OpResult → Option Word
  | .ok v => some v
  | .none | .txFail | .timeout | .nack _ | .refused => Option.none

/-- RES_ACK, defined only under tag NACK (10_state R33). -/
def OpResult.ackByte : OpResult → Option Byte
  | .nack a => some a
  | .none | .ok _ | .txFail | .timeout | .refused => Option.none

/-- The source's Boolean view `success = (RES_TAG = OK)` (60_exceptions R288). -/
def OpResult.success (r : OpResult) : Bool :=
  r.tag == 1

/-- The source's optional-with-sentinel view (60_exceptions R288). -/
inductive SentinelView where
  | value (v : Word)
  | timedOut
  | absent
deriving DecidableEq, Repr

/-- OK(v) maps to the value, TIMEOUT to the sentinel, TX_FAIL and NACK to absent (60_exceptions
R288). The rule names no image for NONE and REFUSED: DESIGN CHOICE absent (log entry 24). -/
def OpResult.sentinelView : OpResult → SentinelView
  | .ok v => .value v
  | .timeout => .timedOut
  | .txFail | .nack _ | .none | .refused => .absent

/-- The result of AckReason (30_encoding R107). -/
inductive AckReason where
  | success
  | registerNotExist
  | invalidData
  | operationFailed
  | unknown (a : Byte)
deriving DecidableEq, Repr

/-- AckReason(a) (30_encoding R107). -/
def ackReason (p : Params) (a : Byte) : AckReason :=
  if a = p.ackSuccess then .success
  else if a = p.ackRegisterNotExist then .registerNotExist
  else if a = p.ackInvalidData then .invalidData
  else if a = p.ackOperationFailed then .operationFailed
  else .unknown a

/-- The result of ComPort (30_encoding R108). -/
inductive ComPort where
  | usb
  | rs485
  | can
  | vofa
  | unknown (v : Word)
deriving DecidableEq, Repr

/-- ComPort(v) (30_encoding R108). -/
def comPort (p : Params) (v : Word) : ComPort :=
  if v = p.comUsb then .usb
  else if v = p.comRs485 then .rs485
  else if v = p.comCan then .can
  else if v = p.comVofa then .vofa
  else .unknown v

/-- The result of Baud (30_encoding R108). -/
inductive Baud where
  | r1M
  | r500K
  | r400K
  | r250K
  | r200K
  | r100K
  | r50K
  | r25K
  | unknown (v : Word)
deriving DecidableEq, Repr

/-- Baud(v) (30_encoding R108). -/
def baud (p : Params) (v : Word) : Baud :=
  if v = p.baud1M then .r1M
  else if v = p.baud500K then .r500K
  else if v = p.baud400K then .r400K
  else if v = p.baud250K then .r250K
  else if v = p.baud200K then .r200K
  else if v = p.baud100K then .r100K
  else if v = p.baud50K then .r50K
  else if v = p.baud25K then .r25K
  else .unknown v

/-- Whether a value read is a valid CAN identifier (30_encoding R109); the engine does not check. -/
def isIdentifier (v : Word) : Bool :=
  decide (v ≤ 0x7FF#32)

/-- The Boolean view of the active-mode register (30_encoding R109): 0 polled, otherwise push. -/
def activeModeView (v : Word) : Bool :=
  v != 0

/-- The duration view of the active-delay register, in milliseconds (30_encoding R109). -/
def activeDelayView (v : Word) : Nat :=
  v.toNat

end Sys2Proof.Machine
end

