-- ==== Sys2Proof/Machine/Operands.lean ====
section
/-! DEFINITION. Operand assembly at the host port: the domains of ARG (30_encoding R105, R111), what
the issue step latches for a primitive (40_protocol_engine R131), and which operation a latch
holds. -/

namespace Sys2Proof.Machine

/-- The domain of SET_COM_PORT (42_register_ops R213). -/
def comPortDomain (p : Params) (arg : Word) : Bool :=
  p.coms.contains arg

/-- The domain of SET_CAN_BAUD (42_register_ops R215). -/
def baudDomain (p : Params) (arg : Word) : Bool :=
  p.bauds.contains arg

/-- The domain of SET_MASTER_ID and SET_SLAVE_ID: 0 to 0x7FF (42_register_ops R217, R219). -/
def identifierDomain (arg : Word) : Bool :=
  decide (arg ≤ 0x7FF#32)

/-- The domain of SET_ACTIVE_MODE: 0 or 1 (42_register_ops R221). -/
def activeModeDomain (arg : Word) : Bool :=
  decide (arg ≤ 1#32)

/-- The domain of SET_ACTIVE_DELAY: 1 to 1000 (42_register_ops R223). -/
def activeDelayDomain (arg : Word) : Bool :=
  decide (1#32 ≤ arg ∧ arg ≤ 1000#32)

/-- Expand (40_protocol_engine R131): what the issue step latches. The three fields that R131 leaves
unspecified for POLL are free values (log entry 6). -/
def expand (opc : BitVec 6) (tmo : Word) (draws : Nat) : Primitive → Latch
  | .readRegister r => ⟨opc, .read, r, Config.modeRead, 0, tmo⟩
  | .writeRegister r v => ⟨opc, .write, r, Config.modeWrite, v, tmo⟩
  | .requestTelemetry r => ⟨opc, .reqTlm, r, Config.modeRead, 0, tmo⟩
  | .readTelemetry r => ⟨opc, .readTlm, r, Config.modeRead, 0, tmo⟩
  | .poll => ⟨opc, .poll, Config.freeByte draws, Config.freeByte (draws + 1),
      Config.freeWord draws, tmo⟩

/-- Whether a latch holds an operation with this opcode, primitive and timeout: it is what the issue
step would have latched, the unspecified fields of a POLL left aside. -/
def Latch.holds (l : Latch) (opc : BitVec 6) (tmo : Word) (prim : Primitive) : Bool :=
  match prim with
  | .poll => l.opc == opc && l.kind == .poll && l.tmo == tmo
  | .readRegister r => l == ⟨opc, .read, r, Config.modeRead, 0, tmo⟩
  | .writeRegister r v => l == ⟨opc, .write, r, Config.modeWrite, v, tmo⟩
  | .requestTelemetry r => l == ⟨opc, .reqTlm, r, Config.modeRead, 0, tmo⟩
  | .readTelemetry r => l == ⟨opc, .readTlm, r, Config.modeRead, 0, tmo⟩

end Sys2Proof.Machine
end

