-- ==== Sys2Proof/Machine/Ops.lean ====
section
/-! DEFINITION. The engine's named operations and steps: completion (60_exceptions R286), issue,
transmit, wait, drain (40_protocol_engine R131 to R147), the cache port (10_state R25), and the
templates that the meanings are instances of. -/

namespace Sys2Proof.Machine

/-! ## Completion: what stands for taking an exception -/

/-- `complete X` (60_exceptions R286): RESULT <- X; PHASE <- IDLE; nothing else is saved. There is no
handler and no return (R290): the host issues the next command. -/
def State.complete (r : OpResult) (s : State) : State :=
  { s with result := r, phase := .idle }

/-! ## The environment's four calls (00_scope R10) -/

/-- Now(): the true time modulo 2^32 (60_exceptions R294). -/
def State.now (s : State) : Word :=
  BitVec.ofNat 32 s.time

/-- RxAvail(): the number of waiting frames (60_exceptions R297). -/
def State.rxAvail (s : State) : Nat :=
  s.rxQueue.length

/-- The effect of TxSend(f) on the outside: the frame is handed to the transport (60_exceptions
R296). Its answer is `txAnswer`. -/
def State.hand (f : Frame) (s : State) : State :=
  { s with sent := s.sent ++ [f] }

/-! ## Issue -/

/-- The issue step of an accepted command (40_protocol_engine R131). -/
def State.issue (opc : BitVec 6) (tmo : Word) (prim : Primitive) (s : State) : State :=
  match prim with
  | .poll =>
    { s with
      latch := expand opc tmo s.draws .poll, draws := s.draws + 2, pollHit := false,
      phase := .drain }
  | .readRegister r => { s with latch := expand opc tmo s.draws (.readRegister r), phase := .tx }
  | .writeRegister r v =>
    { s with latch := expand opc tmo s.draws (.writeRegister r v), phase := .tx }
  | .requestTelemetry r =>
    { s with latch := expand opc tmo s.draws (.requestTelemetry r), phase := .tx }
  | .readTelemetry r => { s with latch := expand opc tmo s.draws (.readTelemetry r), phase := .tx }

/-- A refused command (40_protocol_engine R131, 30_encoding R111): RESULT <- REFUSED, PHASE stays
IDLE, nothing else changes. -/
def State.refuse (s : State) : State :=
  { s with result := .refused }

/-! ## Transmit -/

/-- BuildCommand (40_protocol_engine R132). -/
def buildCommand (sid : Ident) (reg mode : Byte) (value : Word) : Frame :=
  (commandPayload reg mode value).frame sid

/-- send_command and the rest of the transmit step (40_protocol_engine R133 to R135). -/
def State.sendCommand (reg mode : Byte) (value : Word) (s : State) : State :=
  let t := s.hand (buildCommand s.slaveId reg mode value)
  if s.txAnswer < 0 then t.complete .txFail
  else if s.latch.kind = .reqTlm then t.complete (.ok 0)
  else if s.latch.kind = .read ∨ s.latch.kind = .write then
    { t with tStart := s.now, phase := .waitAck }
  else { t with tStart := s.now, phase := .waitTlm }

/-- The transmit step (40_protocol_engine R133): the latched command. -/
def State.transmitStep (s : State) : State :=
  s.sendCommand s.latch.reg s.latch.mode s.latch.value

/-! ## Wait and drain -/

/-- The time elapsed since the wait began, modulo 2^32 (40_protocol_engine R136). -/
def State.elapsed (s : State) : Word :=
  s.now - s.tStart

/-- The time test of a wait step: elapsed >= REQ_TMO (40_protocol_engine R136). -/
def State.timedOut (s : State) : Bool :=
  decide (s.latch.tmo ≤ s.elapsed)

/-- WriteBack() (40_protocol_engine R152): SET_SLAVE_ID is OPC 0x17, SET_MASTER_ID is OPC 0x15. -/
def State.writeBack (s : State) : State :=
  if s.latch.opc = 0x17#6 then { s with slaveId := s.latch.value.setWidth 11 }
  else if s.latch.opc = 0x15#6 ∧ s.params.mstWriteback = true then
    { s with masterId := s.latch.value.setWidth 11 }
  else s

/-- AckComplete (40_protocol_engine R139). -/
def State.ackComplete (ask : Byte) (value : Word) (s : State) : State :=
  if ackReason s.params ask = .success then
    s.writeBack.complete (.ok (if s.latch.kind = .read then value else 0))
  else s.complete (.nack ask)

/-- The write of Decode(k, D): all registers of the group in one step (10_state R24). -/
def State.store (t : Telemetry) (s : State) : State :=
  match t with
  | .accel c => { s with accel := some c }
  | .gyro c => { s with gyro := some c }
  | .euler c => { s with euler := some c }
  | .quat c => { s with quat := some c }

/-- The kind of a decoded telemetry frame. -/
def telemetryKind : Telemetry → Kind
  | .accel _ => .accel
  | .gyro _ => .gyro
  | .euler _ => .euler
  | .quat _ => .quat

/-- What a popped ACK does: MatchAck in WAIT_ACK (40_protocol_engine R138), discarded otherwise
(R147). -/
def State.onAck (reg ask : Byte) (value : Word) (s : State) : State :=
  if s.phase = .waitAck ∧ reg = s.latch.reg then s.ackComplete ask value else s

/-- What a popped telemetry frame does: MatchTlm in WAIT_TLM (40_protocol_engine R143, R144), decoded
in DRAIN (R145, R146), discarded otherwise (R147). -/
def State.onTelemetry (t : Telemetry) (s : State) : State :=
  match s.phase with
  | .waitTlm =>
    if s.params.ridOf (telemetryKind t) = s.latch.reg then (s.store t).complete (.ok 0) else s
  | .drain => { s.store t with pollHit := true }
  | .idle | .tx | .waitAck => s

/-- What a popped frame does, by its class; FOREIGN, SHORT and OTHER are discarded
(40_protocol_engine R147). -/
def State.consume (r : Received) (s : State) : State :=
  match r with
  | .ack reg ask value => s.onAck reg ask value
  | .telemetry k d => s.onTelemetry (decodeTelemetry k d)
  | .foreign | .short | .other => s

/-- The wait step (40_protocol_engine R136, R137): the time test, then at most one frame. -/
def State.waitStep (s : State) : State :=
  if s.timedOut then s.complete .timeout
  else match s.rxQueue with
    | [] => s
    | f :: q => State.consume (classify s.params s.masterId f) { s with rxQueue := q }

/-- The drain step (40_protocol_engine R145). -/
def State.drainStep (s : State) : State :=
  match s.rxQueue with
  | [] => s.complete (.ok (if s.pollHit then 1 else 0))
  | f :: q => State.consume (classify s.params s.masterId f) { s with rxQueue := q }

/-- The engine's own step in each phase; in IDLE it does not step (60_exceptions R292). -/
def State.engineStep (s : State) : State :=
  match s.phase with
  | .idle => s
  | .tx => s.transmitStep
  | .waitAck => s.waitStep
  | .waitTlm => s.waitStep
  | .drain => s.drainStep

/-! ## The templates of the meanings -/

/-- One step of a host operation: issue in IDLE (refused if ARG is outside its domain, 30_encoding
R111), the engine's step while this very operation is in progress, no meaning while another one is
(40_protocol_engine R131; log entry 12). -/
def hostOp (opc : BitVec 6) (tmo : Word) (prim : Primitive) (accepted : Bool) (s : State) : Answer :=
  match s.phase with
  | .idle => .next (if accepted then s.issue opc tmo prim else s.refuse)
  | .tx | .waitAck | .waitTlm | .drain =>
    if s.latch.holds opc tmo prim then .next s.engineStep else .refused .portNotReady

/-- The width of a code register (10_state R22). -/
def codeWidth : CacheReg → Nat
  | .temp => 8
  | .accX | .accY | .accZ | .gyrX | .gyrY | .gyrZ | .eulRoll | .eulPitch | .eulYaw => 16
  | .quatW | .quatX | .quatY | .quatZ => 14

/-- A code register zero-extended to 16 bits, none while its group is NONE (10_state R23, R25). -/
def State.code (s : State) : CacheReg → Option (BitVec 16)
  | .temp => s.accel.map fun c => c.temp.setWidth 16
  | .accX => s.accel.map fun c => c.x
  | .accY => s.accel.map fun c => c.y
  | .accZ => s.accel.map fun c => c.z
  | .gyrX => s.gyro.map fun c => c.x
  | .gyrY => s.gyro.map fun c => c.y
  | .gyrZ => s.gyro.map fun c => c.z
  | .eulRoll => s.euler.map fun c => c.roll
  | .eulPitch => s.euler.map fun c => c.pitch
  | .eulYaw => s.euler.map fun c => c.yaw
  | .quatW => s.quat.map fun c => c.w.setWidth 16
  | .quatX => s.quat.map fun c => c.x.setWidth 16
  | .quatY => s.quat.map fun c => c.y.setWidth 16
  | .quatZ => s.quat.map fun c => c.z.setWidth 16

/-- The `n`-th free code of a register's width, zero-extended to 16 bits (93 U1; log entry 5). -/
def freeCodeOf (r : CacheReg) (n : Nat) : BitVec 16 :=
  ((Config.freeCode n).setWidth (codeWidth r)).setWidth 16

/-- A read at the cache port (10_state R25, 41_telemetry_codec R192), in any phase: no register of
the engine is written. A register of a group that is NONE delivers a free code. -/
def State.readCache (r : CacheReg) (s : State) : State :=
  match s.code r with
  | some c => { s with cacheData := some c }
  | none => { s with cacheData := some (freeCodeOf r s.draws), draws := s.draws + 1 }

/-- One step with a frame from the device at the head of the receive queue (log entry 10): in a wait
the time test comes first and leaves the frame queued (40_protocol_engine R136); otherwise the frame
is popped and acts; in IDLE and TX no step pops it and it stays queued (60_exceptions R292). -/
def State.receiveFirst (d : Payload) (act : State → State) (s : State) : State :=
  match s.phase with
  | .waitAck | .waitTlm =>
    if s.timedOut then
      State.complete .timeout { s with rxQueue := d.frame s.masterId :: s.rxQueue }
    else act s
  | .drain => act s
  | .idle | .tx => { s with rxQueue := d.frame s.masterId :: s.rxQueue }

end Sys2Proof.Machine
end

