-- ==== Sys2Proof/Machine/Cache.lean ====
section
/-! DEFINITION. The meanings of the 14 cache reads (41_telemetry_codec R192, 10_state R25). -/

namespace Sys2Proof.Machine

/-- GET_TEMPERATURE: CADDR 0 (10_state R25, 41_telemetry_codec R192). -/
def execGetTemperature (s : State) : Answer :=
  .next (s.readCache .temp)

/-- GET_ACCEL_X: CADDR 1 (10_state R25, 41_telemetry_codec R192). -/
def execGetAccelX (s : State) : Answer :=
  .next (s.readCache .accX)

/-- GET_ACCEL_Y: CADDR 2 (10_state R25, 41_telemetry_codec R192). -/
def execGetAccelY (s : State) : Answer :=
  .next (s.readCache .accY)

/-- GET_ACCEL_Z: CADDR 3 (10_state R25, 41_telemetry_codec R192). -/
def execGetAccelZ (s : State) : Answer :=
  .next (s.readCache .accZ)

/-- GET_GYRO_X: CADDR 4 (10_state R25, 41_telemetry_codec R192). -/
def execGetGyroX (s : State) : Answer :=
  .next (s.readCache .gyrX)

/-- GET_GYRO_Y: CADDR 5 (10_state R25, 41_telemetry_codec R192). -/
def execGetGyroY (s : State) : Answer :=
  .next (s.readCache .gyrY)

/-- GET_GYRO_Z: CADDR 6 (10_state R25, 41_telemetry_codec R192). -/
def execGetGyroZ (s : State) : Answer :=
  .next (s.readCache .gyrZ)

/-- GET_ROLL: CADDR 7 (10_state R25, 41_telemetry_codec R192). -/
def execGetRoll (s : State) : Answer :=
  .next (s.readCache .eulRoll)

/-- GET_PITCH: CADDR 8 (10_state R25, 41_telemetry_codec R192). -/
def execGetPitch (s : State) : Answer :=
  .next (s.readCache .eulPitch)

/-- GET_YAW: CADDR 9 (10_state R25, 41_telemetry_codec R192). -/
def execGetYaw (s : State) : Answer :=
  .next (s.readCache .eulYaw)

/-- GET_QUAT_W: CADDR 10 (10_state R25, 41_telemetry_codec R192). -/
def execGetQuatW (s : State) : Answer :=
  .next (s.readCache .quatW)

/-- GET_QUAT_X: CADDR 11 (10_state R25, 41_telemetry_codec R192). -/
def execGetQuatX (s : State) : Answer :=
  .next (s.readCache .quatX)

/-- GET_QUAT_Y: CADDR 12 (10_state R25, 41_telemetry_codec R192). -/
def execGetQuatY (s : State) : Answer :=
  .next (s.readCache .quatY)

/-- GET_QUAT_Z: CADDR 13 (10_state R25, 41_telemetry_codec R192). -/
def execGetQuatZ (s : State) : Answer :=
  .next (s.readCache .quatZ)

end Sys2Proof.Machine
end

