-- ==== Sys2Proof/Machine/Frames.lean ====
section
/-! DEFINITION. The meanings of the 7 frame classes (30_encoding R93 to R99): the two the engine sends in a transmit
step, the five it receives in a wait or drain step. -/

namespace Sys2Proof.Machine

/-- CMD.READ (30_encoding R93): `send_command(reg, READ, 0)`, the transmit step of
40_protocol_engine R133, "Enabled iff PHASE = TX" (log entry 11). -/
def execCmdRead (reg : Byte) (s : State) : Answer :=
  if s.phase = .tx then .next (s.sendCommand reg Config.modeRead 0) else .refused .transmitNotEnabled

/-- CMD.WRITE (30_encoding R94): `send_command(reg, WRITE, value)`, the transmit step of
40_protocol_engine R133, "Enabled iff PHASE = TX" (log entry 11). -/
def execCmdWrite (reg : Byte) (value : Word) (s : State) : Answer :=
  if s.phase = .tx then .next (s.sendCommand reg Config.modeWrite value)
  else .refused .transmitNotEnabled

/-- ACK (30_encoding R95; 40_protocol_engine R138, R139, R147). -/
def execAck (reg ask : Byte) (value : Word) (s : State) : Answer :=
  .next (s.receiveFirst (ackPayload reg ask value) (State.onAck reg ask value))

/-- TLM.ACCEL (30_encoding R96; 41_telemetry_codec R185). -/
def execTlmAccel (temp : Byte) (x y z : BitVec 16) (s : State) : Answer :=
  .next (s.receiveFirst (triplePayload s.params.ridAccel temp x y z)
    (State.onTelemetry (.accel ⟨temp, x, y, z⟩)))

/-- TLM.GYRO (30_encoding R97; 41_telemetry_codec R186): D[1] is ignored. -/
def execTlmGyro (unused : Byte) (x y z : BitVec 16) (s : State) : Answer :=
  .next (s.receiveFirst (triplePayload s.params.ridGyro unused x y z)
    (State.onTelemetry (.gyro ⟨x, y, z⟩)))

/-- TLM.EULER (30_encoding R98; 41_telemetry_codec R187): D[1] is ignored. -/
def execTlmEuler (unused : Byte) (pitch yaw roll : BitVec 16) (s : State) : Answer :=
  .next (s.receiveFirst (triplePayload s.params.ridEuler unused pitch yaw roll)
    (State.onTelemetry (.euler ⟨pitch, yaw, roll⟩)))

/-- TLM.QUAT (30_encoding R99; 41_telemetry_codec R188). -/
def execTlmQuat (w x y z : BitVec 14) (s : State) : Answer :=
  .next (s.receiveFirst (quatPayload s.params.ridQuat w x y z)
    (State.onTelemetry (.quat ⟨w, x, y, z⟩)))

end Sys2Proof.Machine
end

