-- ==== Sys2Proof/Machine/Maintenance.lean ====
section
/-! DEFINITION. The meanings of the calibration and maintenance operations (44_maintenance_ops). -/

namespace Sys2Proof.Machine

/-- CAL_ACCEL (44_maintenance_ops R261): OPC 0x20, the template TRIGGER of R260. -/
def execCalAccel (tmo : Word) (s : State) : Answer :=
  hostOp 0x20 tmo (.writeRegister s.params.ridCalAccel s.params.trigCalAccel) true s

/-- CAL_GYRO (44_maintenance_ops R262): OPC 0x21, the template TRIGGER of R260. -/
def execCalGyro (tmo : Word) (s : State) : Answer :=
  hostOp 0x21 tmo (.writeRegister s.params.ridCalGyro s.params.trigCalGyro) true s

/-- CAL_MAG (44_maintenance_ops R263): OPC 0x22, the template TRIGGER of R260. -/
def execCalMag (tmo : Word) (s : State) : Answer :=
  hostOp 0x22 tmo (.writeRegister s.params.ridCalMag s.params.trigCalMag) true s

/-- SET_ZERO (44_maintenance_ops R264): OPC 0x23, the template TRIGGER of R260. -/
def execSetZero (tmo : Word) (s : State) : Answer :=
  hostOp 0x23 tmo (.writeRegister s.params.ridZero s.params.trigZero) true s

/-- REBOOT (44_maintenance_ops R265): OPC 0x24, the template TRIGGER of R260. The engine itself is not reset. -/
def execReboot (tmo : Word) (s : State) : Answer :=
  hostOp 0x24 tmo (.writeRegister s.params.ridReboot s.params.trigReboot) true s

/-- SAVE_PARAMETERS (44_maintenance_ops R266): OPC 0x25, the template TRIGGER of R260. A nack is
reported as for any other exchange. -/
def execSaveParameters (tmo : Word) (s : State) : Answer :=
  hostOp 0x25 tmo (.writeRegister Config.ridSave s.params.trigSave) true s

end Sys2Proof.Machine
end

