-- ==== Sys2Proof/Machine/Registers.lean ====
section
/-! DEFINITION. The meanings of the configuration register operations (42_register_ops). -/

namespace Sys2Proof.Machine

/-- GET_COM_PORT (42_register_ops R212): OPC 0x10, the template GETREG of R210. -/
def execGetComPort (tmo : Word) (s : State) : Answer :=
  hostOp 0x10 tmo (.readRegister s.params.ridComPort) true s

/-- SET_COM_PORT (42_register_ops R213): OPC 0x11, the template SETREG of R211. -/
def execSetComPort (arg tmo : Word) (s : State) : Answer :=
  hostOp 0x11 tmo (.writeRegister s.params.ridComPort arg) (comPortDomain s.params arg) s

/-- GET_CAN_BAUD (42_register_ops R214): OPC 0x12, the template GETREG of R210. -/
def execGetCanBaud (tmo : Word) (s : State) : Answer :=
  hostOp 0x12 tmo (.readRegister s.params.ridCanBaud) true s

/-- SET_CAN_BAUD (42_register_ops R215): OPC 0x13, the template SETREG of R211. -/
def execSetCanBaud (arg tmo : Word) (s : State) : Answer :=
  hostOp 0x13 tmo (.writeRegister s.params.ridCanBaud arg) (baudDomain s.params arg) s

/-- GET_MASTER_ID (42_register_ops R216): OPC 0x14, the template GETREG of R210. -/
def execGetMasterId (tmo : Word) (s : State) : Answer :=
  hostOp 0x14 tmo (.readRegister s.params.ridMasterId) true s

/-- SET_MASTER_ID (42_register_ops R217): OPC 0x15, the template SETREG of R211. On OK the
engine's own identifier follows if MST_WRITEBACK holds (40_protocol_engine R152). -/
def execSetMasterId (arg tmo : Word) (s : State) : Answer :=
  hostOp 0x15 tmo (.writeRegister s.params.ridMasterId arg) (identifierDomain arg) s

/-- GET_SLAVE_ID (42_register_ops R218): OPC 0x16, the template GETREG of R210. -/
def execGetSlaveId (tmo : Word) (s : State) : Answer :=
  hostOp 0x16 tmo (.readRegister s.params.ridSlaveId) true s

/-- SET_SLAVE_ID (42_register_ops R219): OPC 0x17, the template SETREG of R211. On OK the engine's
own identifier follows (40_protocol_engine R152). -/
def execSetSlaveId (arg tmo : Word) (s : State) : Answer :=
  hostOp 0x17 tmo (.writeRegister s.params.ridSlaveId arg) (identifierDomain arg) s

/-- GET_ACTIVE_MODE (42_register_ops R220): OPC 0x18, the template GETREG of R210. -/
def execGetActiveMode (tmo : Word) (s : State) : Answer :=
  hostOp 0x18 tmo (.readRegister s.params.ridActiveMode) true s

/-- SET_ACTIVE_MODE (42_register_ops R221): OPC 0x19, the template SETREG of R211. -/
def execSetActiveMode (arg tmo : Word) (s : State) : Answer :=
  hostOp 0x19 tmo (.writeRegister s.params.ridActiveMode arg) (activeModeDomain arg) s

/-- GET_ACTIVE_DELAY (42_register_ops R222): OPC 0x1A, the template GETREG of R210. -/
def execGetActiveDelay (tmo : Word) (s : State) : Answer :=
  hostOp 0x1A tmo (.readRegister s.params.ridActiveDelay) true s

/-- SET_ACTIVE_DELAY (42_register_ops R223): OPC 0x1B, the template SETREG of R211. -/
def execSetActiveDelay (arg tmo : Word) (s : State) : Answer :=
  hostOp 0x1B tmo (.writeRegister s.params.ridActiveDelay arg) (activeDelayDomain arg) s

/-- GET_OUTPUT_SELECTION (42_register_ops R224): OPC 0x1C, the template GETREG of R210. -/
def execGetOutputSelection (tmo : Word) (s : State) : Answer :=
  hostOp 0x1C tmo (.readRegister s.params.ridOutputSel) true s

end Sys2Proof.Machine
end

