-- ==== Sys2Proof/Machine/Telemetry.lean ====
section
/-! DEFINITION. The meanings of the telemetry operations (43_telemetry_ops): POLL, REQUEST_x, READ_x. -/

namespace Sys2Proof.Machine

/-- POLL (43_telemetry_ops R249, 40_protocol_engine R145): OPC 0x00; TMO is latched and unused. -/
def execPoll (tmo : Word) (s : State) : Answer :=
  hostOp 0x00 tmo .poll true s

/-- REQUEST_ACCEL (43_telemetry_ops R241): OPC 0x01, `request_telemetry(RID_ACCEL)`; TMO is latched and
unused. -/
def execRequestAccel (tmo : Word) (s : State) : Answer :=
  hostOp 0x01 tmo (.requestTelemetry s.params.ridAccel) true s

/-- REQUEST_GYRO (43_telemetry_ops R242): OPC 0x02, `request_telemetry(RID_GYRO)`; TMO is latched and
unused. -/
def execRequestGyro (tmo : Word) (s : State) : Answer :=
  hostOp 0x02 tmo (.requestTelemetry s.params.ridGyro) true s

/-- REQUEST_EULER (43_telemetry_ops R243): OPC 0x03, `request_telemetry(RID_EULER)`; TMO is latched and
unused. -/
def execRequestEuler (tmo : Word) (s : State) : Answer :=
  hostOp 0x03 tmo (.requestTelemetry s.params.ridEuler) true s

/-- REQUEST_QUAT (43_telemetry_ops R244): OPC 0x04, `request_telemetry(RID_QUAT)`; TMO is latched and
unused. -/
def execRequestQuat (tmo : Word) (s : State) : Answer :=
  hostOp 0x04 tmo (.requestTelemetry s.params.ridQuat) true s

/-- READ_ACCEL (43_telemetry_ops R245): OPC 0x05, `read_telemetry(RID_ACCEL, TMO)`. -/
def execReadAccel (tmo : Word) (s : State) : Answer :=
  hostOp 0x05 tmo (.readTelemetry s.params.ridAccel) true s

/-- READ_GYRO (43_telemetry_ops R246): OPC 0x06, `read_telemetry(RID_GYRO, TMO)`. -/
def execReadGyro (tmo : Word) (s : State) : Answer :=
  hostOp 0x06 tmo (.readTelemetry s.params.ridGyro) true s

/-- READ_EULER (43_telemetry_ops R247): OPC 0x07, `read_telemetry(RID_EULER, TMO)`. -/
def execReadEuler (tmo : Word) (s : State) : Answer :=
  hostOp 0x07 tmo (.readTelemetry s.params.ridEuler) true s

/-- READ_QUAT (43_telemetry_ops R248): OPC 0x08, `read_telemetry(RID_QUAT, TMO)`. -/
def execReadQuat (tmo : Word) (s : State) : Answer :=
  hostOp 0x08 tmo (.readTelemetry s.params.ridQuat) true s

end Sys2Proof.Machine
end

