-- ==== Sys2Proof/Machine/Dispatch.lean ====
section
/-! DEFINITION. One arm per constructor of Instr: each calls its instruction's meaning. -/

namespace Sys2Proof.Machine

def exec (i : Instr) (s : State) : Host.Outcome State Fault Refusal :=
  match i with
  | .poll tmo => Sys2Proof.Machine.execPoll tmo s
  | .requestAccel tmo => Sys2Proof.Machine.execRequestAccel tmo s
  | .requestGyro tmo => Sys2Proof.Machine.execRequestGyro tmo s
  | .requestEuler tmo => Sys2Proof.Machine.execRequestEuler tmo s
  | .requestQuat tmo => Sys2Proof.Machine.execRequestQuat tmo s
  | .readAccel tmo => Sys2Proof.Machine.execReadAccel tmo s
  | .readGyro tmo => Sys2Proof.Machine.execReadGyro tmo s
  | .readEuler tmo => Sys2Proof.Machine.execReadEuler tmo s
  | .readQuat tmo => Sys2Proof.Machine.execReadQuat tmo s
  | .getComPort tmo => Sys2Proof.Machine.execGetComPort tmo s
  | .setComPort arg tmo => Sys2Proof.Machine.execSetComPort arg tmo s
  | .getCanBaud tmo => Sys2Proof.Machine.execGetCanBaud tmo s
  | .setCanBaud arg tmo => Sys2Proof.Machine.execSetCanBaud arg tmo s
  | .getMasterId tmo => Sys2Proof.Machine.execGetMasterId tmo s
  | .setMasterId arg tmo => Sys2Proof.Machine.execSetMasterId arg tmo s
  | .getSlaveId tmo => Sys2Proof.Machine.execGetSlaveId tmo s
  | .setSlaveId arg tmo => Sys2Proof.Machine.execSetSlaveId arg tmo s
  | .getActiveMode tmo => Sys2Proof.Machine.execGetActiveMode tmo s
  | .setActiveMode arg tmo => Sys2Proof.Machine.execSetActiveMode arg tmo s
  | .getActiveDelay tmo => Sys2Proof.Machine.execGetActiveDelay tmo s
  | .setActiveDelay arg tmo => Sys2Proof.Machine.execSetActiveDelay arg tmo s
  | .getOutputSelection tmo => Sys2Proof.Machine.execGetOutputSelection tmo s
  | .calAccel tmo => Sys2Proof.Machine.execCalAccel tmo s
  | .calGyro tmo => Sys2Proof.Machine.execCalGyro tmo s
  | .calMag tmo => Sys2Proof.Machine.execCalMag tmo s
  | .setZero tmo => Sys2Proof.Machine.execSetZero tmo s
  | .reboot tmo => Sys2Proof.Machine.execReboot tmo s
  | .saveParameters tmo => Sys2Proof.Machine.execSaveParameters tmo s
  | .getTemperature => Sys2Proof.Machine.execGetTemperature s
  | .getAccelX => Sys2Proof.Machine.execGetAccelX s
  | .getAccelY => Sys2Proof.Machine.execGetAccelY s
  | .getAccelZ => Sys2Proof.Machine.execGetAccelZ s
  | .getGyroX => Sys2Proof.Machine.execGetGyroX s
  | .getGyroY => Sys2Proof.Machine.execGetGyroY s
  | .getGyroZ => Sys2Proof.Machine.execGetGyroZ s
  | .getRoll => Sys2Proof.Machine.execGetRoll s
  | .getPitch => Sys2Proof.Machine.execGetPitch s
  | .getYaw => Sys2Proof.Machine.execGetYaw s
  | .getQuatW => Sys2Proof.Machine.execGetQuatW s
  | .getQuatX => Sys2Proof.Machine.execGetQuatX s
  | .getQuatY => Sys2Proof.Machine.execGetQuatY s
  | .getQuatZ => Sys2Proof.Machine.execGetQuatZ s
  | .cmdRead reg => Sys2Proof.Machine.execCmdRead reg s
  | .cmdWrite reg value => Sys2Proof.Machine.execCmdWrite reg value s
  | .ack reg ask value => Sys2Proof.Machine.execAck reg ask value s
  | .tlmAccel temp x y z => Sys2Proof.Machine.execTlmAccel temp x y z s
  | .tlmGyro unused x y z => Sys2Proof.Machine.execTlmGyro unused x y z s
  | .tlmEuler unused pitch yaw roll => Sys2Proof.Machine.execTlmEuler unused pitch yaw roll s
  | .tlmQuat w x y z => Sys2Proof.Machine.execTlmQuat w x y z s

end Sys2Proof.Machine
end

