-- ==== Sys2Proof/Machine/Environment.lean ====
section
/-! DEFINITION. The environment between two steps (00_scope R7, R11; 30_encoding R114), and the
placing of a port word for the next step. -/

namespace Sys2Proof.Machine

/-- The environment's next turn: the head of the script, or a free turn once it is used up (log
entry 7). -/
def State.nextTurn (s : State) : Turn :=
  match s.script with
  | t :: _ => t
  | [] => Config.freeTurn s.turns

/-- What a turn does (00_scope R11): time passes and never goes back (60_exceptions R294), another
reader takes the frames it takes (70_reset R326), frames arrive behind those that wait (20_memory R75) as far as RX_CAPACITY lets the transport hold them
(00_scope R6), the transport's next answer is fixed. Nothing stands at the cache read port yet. -/
def State.environment (t : Turn) (s : State) : State :=
  { s with
    time := s.time + t.elapse, rxQueue := queueAfter s.params.rxCapacity t s.rxQueue,
    txAnswer := t.txAnswer, cacheData := none }

/-- The state after the environment's next turn, the turn being used up. -/
def State.afterTurn (s : State) : State :=
  match s.script with
  | t :: rest => { s with script := rest }.environment t
  | [] => { s with turns := s.turns + 1 }.environment (Config.freeTurn s.turns)

/-- A turn in which nothing happens but the host's move. -/
def quietTurn (s : State) (m : HostMove) : Turn :=
  ⟨0, 0, [], s.txAnswer, m⟩

/-- The phases in which the engine pops frames (40_protocol_engine R137, R145). -/
def Phase.receives : Phase → Bool
  | .waitAck | .waitTlm | .drain => true
  | .idle | .tx => false

/-- The received payload `d`, read under the ids the opcode table prints, under the ids in force in
`s`; a payload that is no instruction stays as it is (log entry 23). -/
def State.wirePayload (s : State) (d : Payload) : Payload :=
  match decodeReceive exampleParams d with
  | .ok i =>
    match encode s.params i with
    | .receivePayload e => e
    | .hostCommand _ | .cacheAddress _ | .sendPayload _ => d
  | .error _ => d

/-- The state with a port word placed where the very next step reads it (log entry 7). -/
def State.withPortWord (s : State) (w : PortWord) : State :=
  match w with
  | .hostCommand c => { s with script := quietTurn s (.command c) :: s.script, phase := .idle }
  | .cacheAddress a => { s with script := quietTurn s (.readCache a) :: s.script }
  | .sendPayload d =>
    { s with
      script := quietTurn s .wait :: s.script, phase := .tx,
      latch := { s.latch with reg := d.d1, mode := d.d2, value := d.le32 } }
  | .receivePayload d =>
    { s with
      script := quietTurn s .wait :: s.script,
      rxQueue := (s.wirePayload d).frame s.masterId :: s.rxQueue,
      phase := if s.phase.receives then s.phase else .drain }

end Sys2Proof.Machine
end

