-- ==== Sys2Proof/Machine/Step.lean ====
section
/-! DEFINITION. One step of the block: the environment's turn, then the host's cache read or the
engine's step (00_scope R11), and where a step finds its instruction. -/

namespace Sys2Proof.Machine

/-- One step. The environment takes its turn. Then the host reads the cache, in any phase (10_state
R25); or the engine steps: in IDLE it issues the command the host presents, if any (40_protocol_engine
R131), a reserved OPC completing REFUSED (30_encoding R111); in every other phase the host port is not
ready and the operation in progress goes on. -/
def step (s : State) : Host.Outcome State Fault Refusal :=
  let t := s.afterTurn
  match s.nextTurn.host with
  | .readCache a =>
    match decode t.params (.cacheAddress a) with
    | .ok i => exec i t
    | .error _ => .refused (.reservedCacheAddress a)
  | .command c =>
    match t.phase with
    | .idle =>
      match decode t.params (.hostCommand c) with
      | .ok i => exec i t
      | .error _ => .next t.refuse
    | .tx | .waitAck | .waitTlm | .drain => .next t.engineStep
  | .wait => .next t.engineStep

/-- The state with a word of spec/opcode_table.json placed where the next step finds its instruction
(log entry 7): a host word is presented in the next turn to an idle engine; a received payload heads
the queue of an engine that pops frames; a command frame is latched for the transmit step. -/
def State.withFetchWord (s : State) (nbits w : Nat) : State :=
  s.withPortWord (tableWord nbits w)

end Sys2Proof.Machine
end

