-- ==== Sys2Proof/Machine/Codec.lean ====
section
/-! DEFINITION. The telemetry codec's quantiser and the decoded values of the cache (41_telemetry_codec
R180 to R190): functions of codes, no part of the state (10_state R26). -/

namespace Sys2Proof.Machine

/-- The quantiser Q(raw, min, max, bits), an exact rational (41_telemetry_codec R180). -/
def quantise (raw : Nat) (min max : Rat) (bits : Nat) : Rat :=
  min + (raw : Rat) * (max - min) / ((2 : Rat) ^ bits - 1)

/-- ACCEL_MAX = 235.2 (00_scope R6). -/
def accelMax : Rat := 1176 / 5

/-- GYRO_MAX = 34.88 (00_scope R6). -/
def gyroMax : Rat := 872 / 25

/-- PITCH_MAX = 90 (00_scope R6). -/
def pitchMax : Rat := 90

/-- YAW_MAX = 180 (00_scope R6). -/
def yawMax : Rat := 180

/-- ROLL_MAX = 180 (00_scope R6). -/
def rollMax : Rat := 180

/-- QUAT_MAX = 1 (00_scope R6). -/
def quatMax : Rat := 1

/-- The upper end of a register's range; every range is symmetric (41_telemetry_codec R182, R190).
TEMP is not quantised and has none. -/
def rangeMax : CacheReg → Option Rat
  | .temp => none
  | .accX | .accY | .accZ => some accelMax
  | .gyrX | .gyrY | .gyrZ => some gyroMax
  | .eulPitch => some pitchMax
  | .eulYaw => some yawMax
  | .eulRoll => some rollMax
  | .quatW | .quatX | .quatY | .quatZ => some quatMax

/-- The decoded value of a code of a register (10_state R26, R27; 41_telemetry_codec R190): Q over
the register's range, and for TEMP the byte itself. -/
def decodedValue (r : CacheReg) (code : BitVec 16) : Rat :=
  match rangeMax r with
  | some m => quantise code.toNat (-m) m (codeWidth r)
  | none => (code.toNat : Rat)

/-- The decoded value rendered in the machine's number format (41_telemetry_codec R183). DESIGN CHOICE:
TEMP, whose value is the byte (R190), is rendered too; R183 speaks of values in [min, max] only (log
entry 18). -/
def renderedValue (r : CacheReg) (code : BitVec 16) : Rat :=
  Config.fpRender (decodedValue r code)

/-- The decoded value of a register of the cache, none while its group is NONE (41_telemetry_codec
R192). -/
def State.decoded (s : State) (r : CacheReg) : Option Rat :=
  (s.code r).map (decodedValue r)

end Sys2Proof.Machine
end

