-- ==== Sys2Proof/Safety.lean ====
section
/-! DEFINITION. The terms the statements use: the table of host operations (30_encoding R104), which
operation is in progress, the invariant every step keeps, which frame matches, and runs of several
steps. -/

namespace Sys2Proof.Machine

/-! ## The table of host operations -/

/-- The rows of 30_encoding R104: opcode, timeout and what the operation expands to; none for an
instruction that is no host operation. -/
def operation (p : Params) : Instr → Option (BitVec 6 × Word × Primitive)
  | .poll tmo => some (0x00, tmo, .poll)
  | .requestAccel tmo => some (0x01, tmo, .requestTelemetry p.ridAccel)
  | .requestGyro tmo => some (0x02, tmo, .requestTelemetry p.ridGyro)
  | .requestEuler tmo => some (0x03, tmo, .requestTelemetry p.ridEuler)
  | .requestQuat tmo => some (0x04, tmo, .requestTelemetry p.ridQuat)
  | .readAccel tmo => some (0x05, tmo, .readTelemetry p.ridAccel)
  | .readGyro tmo => some (0x06, tmo, .readTelemetry p.ridGyro)
  | .readEuler tmo => some (0x07, tmo, .readTelemetry p.ridEuler)
  | .readQuat tmo => some (0x08, tmo, .readTelemetry p.ridQuat)
  | .getComPort tmo => some (0x10, tmo, .readRegister p.ridComPort)
  | .setComPort arg tmo => some (0x11, tmo, .writeRegister p.ridComPort arg)
  | .getCanBaud tmo => some (0x12, tmo, .readRegister p.ridCanBaud)
  | .setCanBaud arg tmo => some (0x13, tmo, .writeRegister p.ridCanBaud arg)
  | .getMasterId tmo => some (0x14, tmo, .readRegister p.ridMasterId)
  | .setMasterId arg tmo => some (0x15, tmo, .writeRegister p.ridMasterId arg)
  | .getSlaveId tmo => some (0x16, tmo, .readRegister p.ridSlaveId)
  | .setSlaveId arg tmo => some (0x17, tmo, .writeRegister p.ridSlaveId arg)
  | .getActiveMode tmo => some (0x18, tmo, .readRegister p.ridActiveMode)
  | .setActiveMode arg tmo => some (0x19, tmo, .writeRegister p.ridActiveMode arg)
  | .getActiveDelay tmo => some (0x1A, tmo, .readRegister p.ridActiveDelay)
  | .setActiveDelay arg tmo => some (0x1B, tmo, .writeRegister p.ridActiveDelay arg)
  | .getOutputSelection tmo => some (0x1C, tmo, .readRegister p.ridOutputSel)
  | .calAccel tmo => some (0x20, tmo, .writeRegister p.ridCalAccel p.trigCalAccel)
  | .calGyro tmo => some (0x21, tmo, .writeRegister p.ridCalGyro p.trigCalGyro)
  | .calMag tmo => some (0x22, tmo, .writeRegister p.ridCalMag p.trigCalMag)
  | .setZero tmo => some (0x23, tmo, .writeRegister p.ridZero p.trigZero)
  | .reboot tmo => some (0x24, tmo, .writeRegister p.ridReboot p.trigReboot)
  | .saveParameters tmo => some (0x25, tmo, .writeRegister Config.ridSave p.trigSave)
  | .getTemperature | .getAccelX | .getAccelY | .getAccelZ | .getGyroX | .getGyroY => none
  | .getGyroZ | .getRoll | .getPitch | .getYaw | .getQuatW | .getQuatX | .getQuatY => none
  | .getQuatZ | .cmdRead _ | .cmdWrite _ _ | .ack _ _ _ | .tlmAccel _ _ _ _ => none
  | .tlmGyro _ _ _ _ | .tlmEuler _ _ _ _ | .tlmQuat _ _ _ _ => none

/-- The operation in progress: the latch holds the well-formed operation `i`. -/
def State.running (s : State) (i : Instr) : Bool :=
  match operation s.params i with
  | some (opc, tmo, prim) => wellFormed s.params i && s.latch.holds opc tmo prim
  | none => false

/-! ## The operations by what they do -/

/-- The four REQUEST operations with their kinds. -/
def requests (tmo : Word) : List (Instr × Kind) :=
  [(.requestAccel tmo, .accel), (.requestGyro tmo, .gyro), (.requestEuler tmo, .euler),
   (.requestQuat tmo, .quat)]

/-- The four READ operations with their kinds. -/
def telemetryReads (tmo : Word) : List (Instr × Kind) :=
  [(.readAccel tmo, .accel), (.readGyro tmo, .gyro), (.readEuler tmo, .euler),
   (.readQuat tmo, .quat)]

/-- The seven getters with the registers they read. -/
def getters (p : Params) (tmo : Word) : List (Instr × Byte) :=
  [(.getComPort tmo, p.ridComPort), (.getCanBaud tmo, p.ridCanBaud),
   (.getMasterId tmo, p.ridMasterId), (.getSlaveId tmo, p.ridSlaveId),
   (.getActiveMode tmo, p.ridActiveMode), (.getActiveDelay tmo, p.ridActiveDelay),
   (.getOutputSelection tmo, p.ridOutputSel)]

/-- The four setters that change no identifier of the engine, with the registers they write. -/
def plainSetters (p : Params) (arg tmo : Word) : List (Instr × Byte) :=
  [(.setComPort arg tmo, p.ridComPort), (.setCanBaud arg tmo, p.ridCanBaud),
   (.setActiveMode arg tmo, p.ridActiveMode), (.setActiveDelay arg tmo, p.ridActiveDelay)]

/-- All six setters with the registers they write. -/
def setters (p : Params) (arg tmo : Word) : List (Instr × Byte) :=
  (.setMasterId arg tmo, p.ridMasterId) :: (.setSlaveId arg tmo, p.ridSlaveId) ::
    plainSetters p arg tmo

/-- The six triggers with the registers they write. -/
def triggers (p : Params) (tmo : Word) : List (Instr × Byte) :=
  [(.calAccel tmo, p.ridCalAccel), (.calGyro tmo, p.ridCalGyro), (.calMag tmo, p.ridCalMag),
   (.setZero tmo, p.ridZero), (.reboot tmo, p.ridReboot), (.saveParameters tmo, Config.ridSave)]

/-- The 19 operations that await an ACK, with the register awaited. -/
def exchanges (p : Params) (arg tmo : Word) : List (Instr × Byte) :=
  getters p tmo ++ setters p arg tmo ++ triggers p tmo

/-- The 14 cache reads with the registers they read (10_state R25). -/
def cacheReads : List (Instr × CacheReg) :=
  [(.getTemperature, .temp), (.getAccelX, .accX), (.getAccelY, .accY), (.getAccelZ, .accZ),
   (.getGyroX, .gyrX), (.getGyroY, .gyrY), (.getGyroZ, .gyrZ), (.getRoll, .eulRoll),
   (.getPitch, .eulPitch), (.getYaw, .eulYaw), (.getQuatW, .quatW), (.getQuatX, .quatX),
   (.getQuatY, .quatY), (.getQuatZ, .quatZ)]

/-! ## The invariant -/

/-- Which primitive may be in progress in a phase (10_state R30, 40_protocol_engine R148). -/
def phaseFits : Phase → ReqKind → Bool
  | .idle, _ => true
  | .tx, k => k != .poll
  | .waitAck, k => k == .read || k == .write
  | .waitTlm, k => k == .readTlm
  | .drain, k => k == .poll

/-- The invariant: the parameters meet 00_scope R6, and outside IDLE the latch holds a well-formed
host operation whose primitive fits the phase. -/
def Inv (s : State) : Prop :=
  s.params.wf ∧ (s.phase ≠ .idle → ∃ i, s.running i = true) ∧ phaseFits s.phase s.latch.kind = true

/-- The receive queue holds no more frames than RX_CAPACITY lets it (00_scope R6). -/
def State.queueFits (s : State) : Prop :=
  ∀ n, s.params.rxCapacity.depth = some n → s.rxQueue.length ≤ n

/-- A frame that the engine may send: all 8 bytes, decoding to a well-formed CMD.READ or CMD.WRITE
(30_encoding R110). -/
def isCommand (p : Params) (f : Frame) : Prop :=
  ∃ d i, f.payload = some d ∧ decodeSend d = .ok i ∧ wellFormed p i = true

/-! ## What the table of transitions reads of a frame -/

/-- MatchAck of a frame that carries the payload `d`, unfolded (40_protocol_engine R138). -/
def State.matchesAck (s : State) (f : Frame) (d : Payload) : Prop :=
  f = d.frame s.masterId ∧ d.d0 = 0xCC ∧ d.d3 = 0xDD ∧ d.d1 = s.latch.reg

/-- A frame that carries the payload `d` is of class TLM(k) (30_encoding R100). -/
def State.isTelemetry (s : State) (f : Frame) (d : Payload) (k : Kind) : Prop :=
  f = d.frame s.masterId ∧ d.d0 = s.params.ridOf k

/-- MatchTlm of a frame that carries the payload `d`, unfolded (40_protocol_engine R143). -/
def State.matchesTlm (s : State) (f : Frame) (d : Payload) (k : Kind) : Prop :=
  s.isTelemetry f d k ∧ s.params.ridOf k = s.latch.reg

/-- The cache with the group of kind `k` as the payload `d` gives it, the other groups unchanged
(41_telemetry_codec R184 to R188). -/
def State.withGroup (s : State) (k : Kind) (d : Payload) : State :=
  { s with
    accel := if k = .accel then some (accelCodes d) else s.accel,
    gyro := if k = .gyro then some (gyroCodes d) else s.gyro,
    euler := if k = .euler then some (eulerCodes d) else s.euler,
    quat := if k = .quat then some (quatCodes d) else s.quat }

/-! ## Runs -/

/-- `n` steps, stopping at the first that answers no next state. -/
def run : Nat → State → Answer
  | 0, s => .next s
  | n + 1, s =>
    match step s with
    | .next t => run n t
    | .fault f => .fault f
    | .refused r => .refused r

/-- A turn in which `ms` milliseconds pass and nothing else happens. -/
def tick (ms : Nat) : Turn :=
  ⟨ms, 0, [], 0, .wait⟩

end Sys2Proof.Machine
end

