-- ==== Sys2Proof/Certificates/Slice0/Obligations.lean ====
section
/-! DEFINITION. The statements for the provers. A meaning is stated by the whole next state, written as
an update of the state before: every field that the update does not name is unchanged, so each equation
is also the instruction's frame. `s.running i` says that the latch holds the well-formed operation `i`;
`operation` and the lists of operations are in Sys2Proof/Safety.lean. -/

open Sys2Proof Sys2Proof.Machine

/-! ## Steps and decoding -/

/-- A step runs the instruction it decodes: a command presented to an idle engine, a cache read in any
phase, and the operation in progress in a busy engine, each in the state after the environment's turn
(00_scope R11, 40_protocol_engine R131, 10_state R25). -/
def Obligations.StepRunsDecodedInstruction : Prop :=
  ∀ (s : State) (i : Instr),
    (∀ c, s.nextTurn.host = .command c → s.phase = .idle →
      decode s.params (.hostCommand c) = .ok i → step s = exec i s.afterTurn) ∧
    (∀ a, s.nextTurn.host = .readCache a →
      decode s.params (.cacheAddress a) = .ok i → step s = exec i s.afterTurn) ∧
    (s.phase ≠ .idle → (∀ a, s.nextTurn.host ≠ .readCache a) → s.running i = true →
      step s = exec i s.afterTurn)

/-- A step that pops a frame with a decodable payload from the master identifier runs that frame's
instruction, and a transmit step runs the command frame it sends (40_protocol_engine R133, R137,
R145). -/
def Obligations.StepRunsWireFrames : Prop :=
  ∀ (s : State) (d : Payload) (i : Instr), (∀ a, s.nextTurn.host ≠ .readCache a) →
    (∀ q, s.phase.receives = true → s.afterTurn.rxQueue = d.frame s.masterId :: q →
      decode s.params (.receivePayload d) = .ok i →
      step s = exec i { s.afterTurn with rxQueue := q }) ∧
    (s.phase = .tx →
      buildCommand s.slaveId s.latch.reg s.latch.mode s.latch.value = d.frame s.slaveId →
      decode s.params (.sendPayload d) = .ok i → step s = exec i s.afterTurn)

/-- Words written out from the spec's encodings decode to their instructions; the telemetry ids are
those of the bindings in 30_encoding R102 and R103. -/
def Obligations.SpecWordsDecode : Prop :=
  decode exampleParams (.hostCommand ⟨0x17, 2, 30⟩) = .ok (.setSlaveId 2 30) ∧
  decode exampleParams (.hostCommand ⟨0x08, 0, 30⟩) = .ok (.readQuat 30) ∧
  decode exampleParams (.hostCommand ⟨0x25, 0, 100⟩) = .ok (.saveParameters 100) ∧
  decode exampleParams (.cacheAddress 9) = .ok .getYaw ∧
  decode exampleParams (.sendPayload ⟨0xCC, 0x0A, 0x01, 0xDD, 0xF4, 0x01, 0x00, 0x00⟩) =
    .ok (.cmdWrite 0x0A 500) ∧
  decode exampleParams (.receivePayload ⟨0xCC, 0x0C, 0x02, 0xDD, 0xEF, 0xBE, 0xAD, 0xDE⟩) =
    .ok (.ack 0x0C 0x02 0xDEADBEEF) ∧
  decode exampleParams (.receivePayload ⟨0x03, 0x55, 0x80, 0x00, 0x12, 0x34, 0xFF, 0xFF⟩) =
    .ok (.tlmEuler 0x55 0x8000 0x1234 0xFFFF) ∧
  decode exampleParams (.receivePayload ⟨0x04, 0x48, 0xD2, 0x34, 0x5D, 0x15, 0x85, 0x67⟩) =
    .ok (.tlmQuat 0x1234 0x2345 0x3456 0x0567)

/-- Decoding the encoding of any instruction gives it back, at every value of its operands and of the
open parameters. -/
def Obligations.DecodeEncodeRoundTrip : Prop :=
  ∀ (p : Params) (i : Instr), p.wf → decode p (encode p i) = .ok i

/-- The other direction: a cache address or a payload that decodes is the encoding of what it decodes
to, and so is a host command up to an ARG that its operation ignores (30_encoding R104). -/
def Obligations.EncodeDecodeRoundTrip : Prop :=
  ∀ (p : Params) (w : PortWord) (i : Instr), decode p w = .ok i →
    (∀ c, w ≠ .hostCommand c) ∧ encode p i = w ∨
    ∃ c arg, w = .hostCommand c ∧ encode p i = .hostCommand { c with arg := arg } ∧
      (c.opc ∈ [0x11#6, 0x13#6, 0x15#6, 0x17#6, 0x19#6, 0x1B#6] → arg = c.arg)

/-- The command decoder rejects exactly the reserved opcodes of 30_encoding R104, and an idle engine
that is presented one completes REFUSED with no other change (R111). -/
def Obligations.ReservedOpcodesAreRefused : Prop :=
  (∀ c : HostCmd, (¬ ∃ i, decodeHost c = .ok i) ↔
    (0x09 ≤ c.opc.toNat ∧ c.opc.toNat ≤ 0x0F) ∨ (0x1D ≤ c.opc.toNat ∧ c.opc.toNat ≤ 0x1F) ∨
      0x26 ≤ c.opc.toNat) ∧
  ∀ (s : State) (c : HostCmd), s.nextTurn.host = .command c → s.phase = .idle →
    (¬ ∃ i, decodeHost c = .ok i) → step s = .next { s.afterTurn with result := .refused }

/-- Cache addresses 14 and 15 are refused, 0 to 13 are read, in every phase (10_state R25). -/
def Obligations.ReservedCacheAddressesAreRefused : Prop :=
  ∀ (s : State) (a : BitVec 4), s.nextTurn.host = .readCache a →
    (14 ≤ a.toNat → step s = .refused (.reservedCacheAddress a)) ∧
    (a.toNat < 14 → ∃ t, step s = .next t)

/-! ## Field access -/

/-- The data field: LE32 is the little-endian sum of D[4] to D[7] (20_memory R61), and assembling and
reading it are inverse in both directions (30_encoding R117). -/
def Obligations.DataFieldIsBijective : Prop :=
  (∀ d : Payload, d.le32.toNat =
    d.d4.toNat + 2 ^ 8 * d.d5.toNat + 2 ^ 16 * d.d6.toNat + 2 ^ 24 * d.d7.toNat) ∧
  (∀ (reg mode : Byte) (v : Word), (commandPayload reg mode v).le32 = v) ∧
  (∀ (reg ask : Byte) (v : Word), (ackPayload reg ask v).le32 = v) ∧
  ∀ d : Payload, commandPayload d.d1 d.d2 d.le32 =
    { d with d0 := 0xCC, d3 := 0xDD }

/-- The 16-bit fields are big-endian and unsigned, at bytes 2, 4 and 6, in the wire order of each kind;
the temperature is byte 1 (20_memory R62). -/
def Obligations.SixteenBitFieldsAreBigEndian : Prop :=
  ∀ d : Payload,
    (accelCodes d).temp = d.d1 ∧
    (accelCodes d).x.toNat = 2 ^ 8 * d.d2.toNat + d.d3.toNat ∧
    (accelCodes d).y.toNat = 2 ^ 8 * d.d4.toNat + d.d5.toNat ∧
    (accelCodes d).z.toNat = 2 ^ 8 * d.d6.toNat + d.d7.toNat ∧
    (gyroCodes d).x.toNat = 2 ^ 8 * d.d2.toNat + d.d3.toNat ∧
    (gyroCodes d).y.toNat = 2 ^ 8 * d.d4.toNat + d.d5.toNat ∧
    (gyroCodes d).z.toNat = 2 ^ 8 * d.d6.toNat + d.d7.toNat ∧
    (eulerCodes d).pitch.toNat = 2 ^ 8 * d.d2.toNat + d.d3.toNat ∧
    (eulerCodes d).yaw.toNat = 2 ^ 8 * d.d4.toNat + d.d5.toNat ∧
    (eulerCodes d).roll.toNat = 2 ^ 8 * d.d6.toNat + d.d7.toNat

/-- The shifts and masks of 41_telemetry_codec R188 take P[55:42], P[41:28], P[27:14] and P[13:0]:
four fields that fill the 56 bits of D[1] to D[7] (30_encoding R118). -/
def Obligations.QuaternionFieldsPartitionPayload : Prop :=
  ∀ d : Payload,
    (quatCodes d).w = d.word.extractLsb' 42 14 ∧ (quatCodes d).x = d.word.extractLsb' 28 14 ∧
    (quatCodes d).y = d.word.extractLsb' 14 14 ∧ (quatCodes d).z = d.word.extractLsb' 0 14 ∧
    d.d1 ++ d.d2 ++ d.d3 ++ d.d4 ++ d.d5 ++ d.d6 ++ d.d7 =
      (quatCodes d).w ++ (quatCodes d).x ++ (quatCodes d).y ++ (quatCodes d).z

/-- The bytes of every command frame (40_protocol_engine R132). -/
def Obligations.BuildCommandBytes : Prop :=
  ∀ (sid : Ident) (reg mode : Byte) (v : Word),
    (buildCommand sid reg mode v).id = sid ∧
    (buildCommand sid reg mode v).data =
      [0xCC#8, reg, mode, 0xDD#8, v.extractLsb 7 0, v.extractLsb 15 8, v.extractLsb 23 16,
        v.extractLsb 31 24]

/-! ## Reset -/

/-- What reset leaves (70_reset R320): the construction identifiers, IDLE, RES_TAG NONE, no group
written, no frame sent. -/
def Obligations.ResetLeavesEngineIdle : Prop :=
  State.reset.masterId = Config.rstMasterId ∧ State.reset.slaveId = Config.rstSlaveId ∧
  State.reset.busy = false ∧ State.reset.result.tag = 0 ∧
  (∀ k, State.reset.written k = false) ∧ State.reset.sent = []

/-- The reset state meets the invariant; in particular the free parameters meet the constraints of
00_scope R6. -/
def Obligations.ResetMeetsInvariant : Prop :=
  Inv State.reset

/-! ## Issue -/

/-- The issue step of an accepted command latches what its row of 30_encoding R104 expands to and
enters TX, with no other change; a POLL clears POLL_HIT and enters DRAIN (40_protocol_engine R131). The
latch fields that R131 leaves unspecified for POLL, and the model's count of draws, are any values. -/
def Obligations.AcceptedCommandIsLatched : Prop :=
  ∀ (s : State) (i : Instr) (opc : BitVec 6) (tmo : Word) (prim : Primitive),
    operation s.params i = some (opc, tmo, prim) → wellFormed s.params i = true →
    s.phase = .idle →
    match prim with
    | .readRegister r =>
      exec i s = .next { s with latch := ⟨opc, .read, r, 0, 0, tmo⟩, phase := .tx }
    | .writeRegister r v =>
      exec i s = .next { s with latch := ⟨opc, .write, r, 1, v, tmo⟩, phase := .tx }
    | .requestTelemetry r =>
      exec i s = .next { s with latch := ⟨opc, .reqTlm, r, 0, 0, tmo⟩, phase := .tx }
    | .readTelemetry r =>
      exec i s = .next { s with latch := ⟨opc, .readTlm, r, 0, 0, tmo⟩, phase := .tx }
    | .poll => ∃ reg mode value draws,
      exec i s = .next { s with
        latch := ⟨opc, .poll, reg, mode, value, tmo⟩, pollHit := false, draws := draws,
        phase := .drain }

/-- A setter whose ARG is outside its domain, or a command with a reserved OPC, completes at once with
REFUSED and changes nothing else (30_encoding R111). -/
def Obligations.OutOfDomainArgumentIsRefused : Prop :=
  ∀ (s : State) (arg tmo : Word), s.phase = .idle →
    (arg ∉ [s.params.comUsb, s.params.comRs485, s.params.comCan, s.params.comVofa] →
      exec (.setComPort arg tmo) s = .next { s with result := .refused }) ∧
    (arg ∉ [s.params.baud1M, s.params.baud500K, s.params.baud400K, s.params.baud250K,
        s.params.baud200K, s.params.baud100K, s.params.baud50K, s.params.baud25K] →
      exec (.setCanBaud arg tmo) s = .next { s with result := .refused }) ∧
    (0x7FF < arg.toNat →
      exec (.setMasterId arg tmo) s = .next { s with result := .refused } ∧
      exec (.setSlaveId arg tmo) s = .next { s with result := .refused }) ∧
    (1 < arg.toNat → exec (.setActiveMode arg tmo) s = .next { s with result := .refused }) ∧
    (arg.toNat = 0 ∨ 1000 < arg.toNat →
      exec (.setActiveDelay arg tmo) s = .next { s with result := .refused }) ∧
    ∀ c, s.nextTurn.host = .command c →
      (0x09 ≤ c.opc.toNat ∧ c.opc.toNat ≤ 0x0F) ∨ (0x1D ≤ c.opc.toNat ∧ c.opc.toNat ≤ 0x1F) ∨
        0x26 ≤ c.opc.toNat →
      step s = .next { s.afterTurn with result := .refused }

/-- While an operation is in progress, the meaning of any other host operation stops: the host command
port is not ready and the host cannot issue (40_protocol_engine R131). Another operation is one that
the issue step would have latched otherwise: by its opcode, its register, its ARG or its timeout. That it
stops by a refusal is the model's choice (log entry 12); no step asks for it. -/
def Obligations.OtherOperationFindsPortNotReady : Prop :=
  ∀ (s : State) (i : Instr) (opc : BitVec 6) (tmo : Word) (prim : Primitive),
    operation s.params i = some (opc, tmo, prim) → s.phase ≠ .idle →
    (match prim with
      | .readRegister r => s.latch ≠ ⟨opc, .read, r, 0, 0, tmo⟩
      | .writeRegister r v => s.latch ≠ ⟨opc, .write, r, 1, v, tmo⟩
      | .requestTelemetry r => s.latch ≠ ⟨opc, .reqTlm, r, 0, 0, tmo⟩
      | .readTelemetry r => s.latch ≠ ⟨opc, .readTlm, r, 0, 0, tmo⟩
      | .poll => s.latch.opc ≠ opc ∨ s.latch.kind ≠ .poll ∨ s.latch.tmo ≠ tmo) →
    exec i s = .refused .portNotReady

/-! ## Transmit -/

/-- A negative answer of TxSend completes the operation with TX_FAIL: the frame was handed over, and
only RESULT and PHASE change (40_protocol_engine R134). -/
def Obligations.RejectedSendCompletesTxFail : Prop :=
  ∀ (s : State) (i : Instr), s.running i = true → s.phase = .tx → s.txAnswer < 0 →
    exec i s = .next { s with
      sent := s.sent ++ [buildCommand s.slaveId s.latch.reg s.latch.mode s.latch.value],
      result := .txFail, phase := .idle }

/-- REQUEST_x sends one CMD.READ for its kind and completes with OK(0) in the transmit step
(40_protocol_engine R142). -/
def Obligations.RequestCompletesWhenSent : Prop :=
  ∀ (s : State) (tmo : Word) (i : Instr) (k : Kind), (i, k) ∈ requests tmo →
    s.running i = true → s.phase = .tx → 0 ≤ s.txAnswer →
    exec i s = .next { s with
      sent := s.sent ++ [buildCommand s.slaveId (s.params.ridOf k) 0 0],
      result := .ok 0, phase := .idle }

/-- Every other operation but POLL sends its command and opens its wait: T_START is the clock of this
step, and PHASE is WAIT_ACK for an exchange and WAIT_TLM for a READ_x (40_protocol_engine R133, R135). -/
def Obligations.AcceptedSendOpensWait : Prop :=
  ∀ (s : State) (arg tmo : Word) (i : Instr), s.running i = true → s.phase = .tx →
    0 ≤ s.txAnswer →
    (∀ reg, (i, reg) ∈ exchanges s.params arg tmo →
      exec i s = .next { s with
        sent := s.sent ++ [buildCommand s.slaveId reg s.latch.mode s.latch.value],
        tStart := BitVec.ofNat 32 s.time, phase := .waitAck }) ∧
    (∀ k, (i, k) ∈ telemetryReads tmo →
      exec i s = .next { s with
        sent := s.sent ++ [buildCommand s.slaveId (s.params.ridOf k) 0 0],
        tStart := BitVec.ofNat 32 s.time, phase := .waitTlm })

/-- The two command frames as instructions: in TX they are send_command with their operands, with its
four endings; outside TX the transmit step is not enabled (40_protocol_engine R133 to R135). -/
def Obligations.CommandFramesAreSent : Prop :=
  ∀ (s : State) (reg : Byte) (v : Word) (i : Instr) (f : Frame),
    (i = .cmdRead reg ∧ f = buildCommand s.slaveId reg 0 0) ∨
      (i = .cmdWrite reg v ∧ f = buildCommand s.slaveId reg 1 v) →
    (s.phase ≠ .tx → exec i s = .refused .transmitNotEnabled) ∧
    (s.phase = .tx → s.txAnswer < 0 →
      exec i s = .next { s with sent := s.sent ++ [f], result := .txFail, phase := .idle }) ∧
    (s.phase = .tx → 0 ≤ s.txAnswer → s.latch.kind = .reqTlm →
      exec i s = .next { s with sent := s.sent ++ [f], result := .ok 0, phase := .idle }) ∧
    (s.phase = .tx → 0 ≤ s.txAnswer → s.latch.kind = .read ∨ s.latch.kind = .write →
      exec i s = .next { s with
        sent := s.sent ++ [f], tStart := BitVec.ofNat 32 s.time, phase := .waitAck }) ∧
    (s.phase = .tx → 0 ≤ s.txAnswer → s.latch.kind = .readTlm →
      exec i s = .next { s with
        sent := s.sent ++ [f], tStart := BitVec.ofNat 32 s.time, phase := .waitTlm })

/-! ## Wait -/

/-- A getter whose window is open pops a matching SUCCESS response and delivers its 32-bit value; no
identifier and no cache group changes, whatever register is read (40_protocol_engine R139, 42_register_ops
R210). -/
def Obligations.GetterDeliversValue : Prop :=
  ∀ (s : State) (tmo : Word) (i : Instr) (reg : Byte) (d : Payload) (q : List Frame),
    (i, reg) ∈ getters s.params tmo → s.running i = true → s.phase = .waitAck →
    s.timedOut = false → s.rxQueue = d.frame s.masterId :: q → d.d0 = 0xCC → d.d1 = reg →
    d.d2 = s.params.ackSuccess → d.d3 = 0xDD →
    exec i s = .next { s with rxQueue := q, result := .ok d.le32, phase := .idle }

/-- The triggers and the setters of plain registers complete with OK(0) on a matching SUCCESS response,
whatever its data field, and change no identifier (40_protocol_engine R139, R141, R152; 44_maintenance_ops
R260). -/
def Obligations.PlainWriteCompletesOkZero : Prop :=
  ∀ (s : State) (arg tmo : Word) (i : Instr) (reg : Byte) (d : Payload) (q : List Frame),
    (i, reg) ∈ plainSetters s.params arg tmo ++ triggers s.params tmo →
    s.running i = true → s.phase = .waitAck → s.timedOut = false →
    s.rxQueue = d.frame s.masterId :: q → d.d0 = 0xCC → d.d1 = reg →
    d.d2 = s.params.ackSuccess → d.d3 = 0xDD →
    exec i s = .next { s with rxQueue := q, result := .ok 0, phase := .idle }

/-- SET_SLAVE_ID on a matching SUCCESS response writes the value it sent to SLAVE_ID
(42_register_ops R219, 40_protocol_engine R152). -/
def Obligations.SetSlaveIdWritesBack : Prop :=
  ∀ (s : State) (arg tmo : Word) (d : Payload) (q : List Frame),
    s.running (.setSlaveId arg tmo) = true → s.phase = .waitAck → s.timedOut = false →
    s.rxQueue = d.frame s.masterId :: q → d.d0 = 0xCC → d.d1 = s.params.ridSlaveId →
    d.d2 = s.params.ackSuccess → d.d3 = 0xDD →
    exec (.setSlaveId arg tmo) s = .next { s with
      slaveId := arg.extractLsb 10 0, rxQueue := q, result := .ok 0, phase := .idle }

/-- SET_MASTER_ID on a matching SUCCESS response, matched under the old MASTER_ID, writes the value it
sent to MASTER_ID if MST_WRITEBACK holds, and changes no identifier if it does not (42_register_ops
R217, 40_protocol_engine R152). -/
def Obligations.SetMasterIdWritesBackByParameter : Prop :=
  ∀ (s : State) (arg tmo : Word) (d : Payload) (q : List Frame),
    s.running (.setMasterId arg tmo) = true → s.phase = .waitAck → s.timedOut = false →
    s.rxQueue = d.frame s.masterId :: q → d.d0 = 0xCC → d.d1 = s.params.ridMasterId →
    d.d2 = s.params.ackSuccess → d.d3 = 0xDD →
    (s.params.mstWriteback = true → exec (.setMasterId arg tmo) s = .next { s with
      masterId := arg.extractLsb 10 0, rxQueue := q, result := .ok 0, phase := .idle }) ∧
    (s.params.mstWriteback = false → exec (.setMasterId arg tmo) s = .next { s with
      rxQueue := q, result := .ok 0, phase := .idle })

/-- Every exchange, SAVE_PARAMETERS included, completes with NACK and the ack byte as received on a
matching response that is no success; no identifier changes (40_protocol_engine R139, 44_maintenance_ops
R266). -/
def Obligations.NackReportsAckByte : Prop :=
  ∀ (s : State) (arg tmo : Word) (i : Instr) (reg : Byte) (d : Payload) (q : List Frame),
    (i, reg) ∈ exchanges s.params arg tmo → s.running i = true → s.phase = .waitAck →
    s.timedOut = false → s.rxQueue = d.frame s.masterId :: q → d.d0 = 0xCC → d.d1 = reg →
    d.d2 ≠ s.params.ackSuccess → d.d3 = 0xDD →
    exec i s = .next { s with rxQueue := q, result := .nack d.d2, phase := .idle }

/-- The time test comes first: once the elapsed time modulo 2^32 has reached REQ_TMO, a wait step
completes TIMEOUT and pops nothing, whatever the queue holds; a REQ_TMO of 0 does so at once
(40_protocol_engine R136). -/
def Obligations.TimeoutPrecedesReceive : Prop :=
  ∀ (s : State) (i : Instr), s.running i = true → s.phase = .waitAck ∨ s.phase = .waitTlm →
    s.latch.tmo ≤ BitVec.ofNat 32 s.time - s.tStart ∨ s.latch.tmo = 0 →
    exec i s = .next { s with result := .timeout, phase := .idle }

/-- Before the window closes an empty queue leaves a wait unchanged, and a frame that does not match
the awaited register is popped and leaves no trace (40_protocol_engine R137, R138, R143, R147). -/
def Obligations.WaitDiscardsWhatDoesNotMatch : Prop :=
  ∀ (s : State) (i : Instr), s.running i = true →
    s.latch.tmo.toNat > (BitVec.ofNat 32 s.time - s.tStart).toNat →
    (s.phase = .waitAck ∨ s.phase = .waitTlm → s.rxQueue = [] → exec i s = .next s) ∧
    (∀ f q, s.phase = .waitAck → s.rxQueue = f :: q →
      (¬ ∃ d : Payload, f = d.frame s.masterId ∧ d.d0 = 0xCC ∧ d.d3 = 0xDD ∧
        d.d1 = s.latch.reg) →
      exec i s = .next { s with rxQueue := q }) ∧
    (∀ f q, s.phase = .waitTlm → s.rxQueue = f :: q →
      (¬ ∃ d : Payload, f = d.frame s.masterId ∧ d.d0 = s.latch.reg) →
      exec i s = .next { s with rxQueue := q })

/-- READ_x pops a telemetry frame of its kind within the window, writes its whole cache group and
completes with OK(0); the other groups are unchanged (40_protocol_engine R144, 41_telemetry_codec R185
to R188). -/
def Obligations.ReadStoresItsGroup : Prop :=
  ∀ (s : State) (tmo : Word) (d : Payload) (q : List Frame), s.params.wf →
    s.phase = .waitTlm → s.timedOut = false → s.rxQueue = d.frame s.masterId :: q →
    (s.running (.readAccel tmo) = true → d.d0 = s.params.ridAccel →
      exec (.readAccel tmo) s = .next { s with
        rxQueue := q, accel := some (accelCodes d), result := .ok 0, phase := .idle }) ∧
    (s.running (.readGyro tmo) = true → d.d0 = s.params.ridGyro →
      exec (.readGyro tmo) s = .next { s with
        rxQueue := q, gyro := some (gyroCodes d), result := .ok 0, phase := .idle }) ∧
    (s.running (.readEuler tmo) = true → d.d0 = s.params.ridEuler →
      exec (.readEuler tmo) s = .next { s with
        rxQueue := q, euler := some (eulerCodes d), result := .ok 0, phase := .idle }) ∧
    (s.running (.readQuat tmo) = true → d.d0 = s.params.ridQuat →
      exec (.readQuat tmo) s = .next { s with
        rxQueue := q, quat := some (quatCodes d), result := .ok 0, phase := .idle })

/-! ## Poll -/

/-- A drain step of POLL pops a telemetry frame of any kind, writes its group and sets POLL_HIT
(40_protocol_engine R145, R146). -/
def Obligations.PollDecodesEveryKind : Prop :=
  ∀ (s : State) (tmo : Word) (d : Payload) (q : List Frame), s.params.wf →
    s.running (.poll tmo) = true → s.phase = .drain → s.rxQueue = d.frame s.masterId :: q →
    (d.d0 = s.params.ridAccel → exec (.poll tmo) s = .next { s with
      rxQueue := q, accel := some (accelCodes d), pollHit := true }) ∧
    (d.d0 = s.params.ridGyro → exec (.poll tmo) s = .next { s with
      rxQueue := q, gyro := some (gyroCodes d), pollHit := true }) ∧
    (d.d0 = s.params.ridEuler → exec (.poll tmo) s = .next { s with
      rxQueue := q, euler := some (eulerCodes d), pollHit := true }) ∧
    (d.d0 = s.params.ridQuat → exec (.poll tmo) s = .next { s with
      rxQueue := q, quat := some (quatCodes d), pollHit := true })

/-- Every other frame that POLL pops, an ACK among them, leaves no trace; on an empty queue POLL
completes with OK(POLL_HIT) (40_protocol_engine R145, R147). -/
def Obligations.PollDiscardsAndCompletes : Prop :=
  ∀ (s : State) (tmo : Word), s.running (.poll tmo) = true → s.phase = .drain →
    (∀ f q, s.rxQueue = f :: q →
      (¬ ∃ (d : Payload) (k : Kind), f = d.frame s.masterId ∧ d.d0 = s.params.ridOf k) →
      exec (.poll tmo) s = .next { s with rxQueue := q }) ∧
    (s.rxQueue = [] → s.pollHit = true →
      exec (.poll tmo) s = .next { s with result := .ok 1, phase := .idle }) ∧
    (s.rxQueue = [] → s.pollHit = false →
      exec (.poll tmo) s = .next { s with result := .ok 0, phase := .idle })

/-! ## Received frames as instructions -/

/-- AckComplete and WriteBack in full: an ACK for the awaited register within the window completes the
exchange, with OK of its value for a read and OK(0) for a write and the identifier written back, or with
NACK; in WAIT_TLM within the window, in DRAIN, and in WAIT_ACK for another register within the window,
it is discarded (40_protocol_engine R138, R139, R147, R152). That an ACK taken as an instruction is one
step with this frame popped is the model's choice (log entry 10). -/
def Obligations.AckFrameCompletesExchange : Prop :=
  ∀ (s : State) (reg ask : Byte) (v : Word),
    (s.phase = .waitAck → s.timedOut = false → reg = s.latch.reg → ask = s.params.ackSuccess →
      exec (.ack reg ask v) s = .next { s with
        slaveId := if s.latch.opc = 0x17 then s.latch.value.extractLsb 10 0 else s.slaveId,
        masterId := if s.latch.opc = 0x15 ∧ s.params.mstWriteback = true
          then s.latch.value.extractLsb 10 0 else s.masterId,
        result := .ok (if s.latch.kind = .read then v else 0), phase := .idle }) ∧
    (s.phase = .waitAck → s.timedOut = false → reg = s.latch.reg → ask ≠ s.params.ackSuccess →
      exec (.ack reg ask v) s = .next { s with result := .nack ask, phase := .idle }) ∧
    (s.phase = .waitAck ∧ s.timedOut = false ∧ reg ≠ s.latch.reg ∨
      s.phase = .waitTlm ∧ s.timedOut = false ∨ s.phase = .drain →
      exec (.ack reg ask v) s = .next s)

/-- A telemetry frame in DRAIN is decoded into its group and sets POLL_HIT; within the window of a wait
for its kind it is decoded and completes the wait with OK(0); within the window of a wait for an ACK or for another
kind it is discarded. D[1] of a gyroscope or Euler frame influences nothing (40_protocol_engine R144 to
R147, 41_telemetry_codec R185 to R188). That a telemetry frame taken as an instruction is one step with
this frame popped is the model's choice (log entry 10). -/
def Obligations.TelemetryFramesFillTheirGroup : Prop :=
  ∀ (s : State) (b : Byte) (x y z : BitVec 16) (qw qx qy qz : BitVec 14),
    (s.phase = .drain →
      exec (.tlmAccel b x y z) s = .next { s with accel := some ⟨b, x, y, z⟩, pollHit := true } ∧
      exec (.tlmGyro b x y z) s = .next { s with gyro := some ⟨x, y, z⟩, pollHit := true } ∧
      exec (.tlmEuler b x y z) s = .next { s with euler := some ⟨x, y, z⟩, pollHit := true } ∧
      exec (.tlmQuat qw qx qy qz) s =
        .next { s with quat := some ⟨qw, qx, qy, qz⟩, pollHit := true }) ∧
    (s.phase = .waitTlm → s.timedOut = false →
      (s.latch.reg = s.params.ridAccel → exec (.tlmAccel b x y z) s =
        .next { s with accel := some ⟨b, x, y, z⟩, result := .ok 0, phase := .idle }) ∧
      (s.latch.reg = s.params.ridGyro → exec (.tlmGyro b x y z) s =
        .next { s with gyro := some ⟨x, y, z⟩, result := .ok 0, phase := .idle }) ∧
      (s.latch.reg = s.params.ridEuler → exec (.tlmEuler b x y z) s =
        .next { s with euler := some ⟨x, y, z⟩, result := .ok 0, phase := .idle }) ∧
      (s.latch.reg = s.params.ridQuat → exec (.tlmQuat qw qx qy qz) s =
        .next { s with quat := some ⟨qw, qx, qy, qz⟩, result := .ok 0, phase := .idle })) ∧
    (s.timedOut = false →
      (s.phase = .waitAck ∨ s.phase = .waitTlm ∧ s.latch.reg ≠ s.params.ridAccel →
        exec (.tlmAccel b x y z) s = .next s) ∧
      (s.phase = .waitAck ∨ s.phase = .waitTlm ∧ s.latch.reg ≠ s.params.ridGyro →
        exec (.tlmGyro b x y z) s = .next s) ∧
      (s.phase = .waitAck ∨ s.phase = .waitTlm ∧ s.latch.reg ≠ s.params.ridEuler →
        exec (.tlmEuler b x y z) s = .next s) ∧
      (s.phase = .waitAck ∨ s.phase = .waitTlm ∧ s.latch.reg ≠ s.params.ridQuat →
        exec (.tlmQuat qw qx qy qz) s = .next s))

/-- A frame from the device that no step pops stays at the head of the queue and changes nothing else:
in IDLE and TX, and in a wait that times out, which completes TIMEOUT (60_exceptions R289, R292;
40_protocol_engine R136). That it stands at the head is the model's choice (log entry 10). -/
def Obligations.UnpoppedFrameStaysQueued : Prop :=
  ∀ (s : State) (i : Instr) (d : Payload), encode s.params i = .receivePayload d →
    (s.phase = .idle ∨ s.phase = .tx →
      exec i s = .next { s with rxQueue := d.frame s.masterId :: s.rxQueue }) ∧
    (s.phase = .waitAck ∨ s.phase = .waitTlm → s.timedOut = true →
      exec i s = .next { s with
        rxQueue := d.frame s.masterId :: s.rxQueue, result := .timeout, phase := .idle })

/-! ## Cache reads -/

/-- A cache read of a written group delivers the code register zero-extended to 16 bits, in any phase,
and writes no state of the engine (10_state R25, 41_telemetry_codec R192). -/
def Obligations.CacheReadDeliversCode : Prop :=
  ∀ (s : State) (a : AccelCodes) (g : GyroCodes) (e : EulerCodes) (q : QuatCodes),
    (s.accel = some a →
      exec .getTemperature s = .next { s with cacheData := some (a.temp.setWidth 16) } ∧
      exec .getAccelX s = .next { s with cacheData := some a.x } ∧
      exec .getAccelY s = .next { s with cacheData := some a.y } ∧
      exec .getAccelZ s = .next { s with cacheData := some a.z }) ∧
    (s.gyro = some g →
      exec .getGyroX s = .next { s with cacheData := some g.x } ∧
      exec .getGyroY s = .next { s with cacheData := some g.y } ∧
      exec .getGyroZ s = .next { s with cacheData := some g.z }) ∧
    (s.euler = some e →
      exec .getRoll s = .next { s with cacheData := some e.roll } ∧
      exec .getPitch s = .next { s with cacheData := some e.pitch } ∧
      exec .getYaw s = .next { s with cacheData := some e.yaw }) ∧
    (s.quat = some q →
      exec .getQuatW s = .next { s with cacheData := some (q.w.setWidth 16) } ∧
      exec .getQuatX s = .next { s with cacheData := some (q.x.setWidth 16) } ∧
      exec .getQuatY s = .next { s with cacheData := some (q.y.setWidth 16) } ∧
      exec .getQuatZ s = .next { s with cacheData := some (q.z.setWidth 16) })

/-- A cache read of a group that no frame was decoded into still completes: it delivers some code of
the register's width and writes no state of the engine (10_state R23, 93 U1). The count of draws is the
model's own (log entry 5). -/
def Obligations.UnwrittenCacheReadDeliversSomeCode : Prop :=
  ∀ (s : State) (i : Instr) (r : CacheReg), (i, r) ∈ cacheReads → s.code r = none →
    ∃ v : BitVec 16, v.toNat < 2 ^ codeWidth r ∧
      exec i s = .next { s with cacheData := some v, draws := s.draws + 1 }

/-! ## The quantiser -/

/-- The quantiser is strictly increasing and exact at both ends (41_telemetry_codec R181). -/
def Obligations.QuantiserIsMonotoneAndExactAtEnds : Prop :=
  ∀ (min max : Rat) (bits : Nat), min < max → 0 < bits →
    quantise 0 min max bits = min ∧ quantise (2 ^ bits - 1) min max bits = max ∧
    ∀ a b : Nat, a < b → quantise a min max bits < quantise b min max bits

/-- With N = 2^bits - 1, which is odd, a quantised register's code c decodes to max * (2c - N) / N: never to zero,
opposite to the code N - c, and the two codes nearest zero give -max/N and max/N (41_telemetry_codec
R182). -/
def Obligations.NoCodeDecodesToZero : Prop :=
  ∀ (r : CacheReg) (m : Rat) (c : BitVec 16) (N : Nat), rangeMax r = some m →
    N = 2 ^ codeWidth r - 1 → c.toNat ≤ N →
    N % 2 = 1 ∧
    decodedValue r c = m * (2 * (c.toNat : Rat) - N) / N ∧ decodedValue r c ≠ 0 ∧
    decodedValue r (BitVec.ofNat 16 (N - c.toNat)) = - decodedValue r c ∧
    (c.toNat = (N - 1) / 2 → decodedValue r c = -m / N) ∧
    (c.toNat = (N + 1) / 2 → decodedValue r c = m / N)

/-- Every decoded value of a quantised register lies in its range, and its rendering lies between the
renderings of the two ends, whatever the number format (41_telemetry_codec R183, R190). -/
def Obligations.DecodedValuesStayInRange : Prop :=
  ∀ (r : CacheReg) (m : Rat) (c : BitVec 16), rangeMax r = some m →
    c.toNat < 2 ^ codeWidth r →
    -m ≤ decodedValue r c ∧ decodedValue r c ≤ m ∧
    Config.fpRender (-m) ≤ renderedValue r c ∧ renderedValue r c ≤ Config.fpRender m

/-- The ack reasons: each of the four codes gives its own reason, and every other byte is UNKNOWN of
itself (30_encoding R107). -/
def Obligations.AckReasonsAreTotal : Prop :=
  ∀ p : Params, p.wf →
    ackReason p p.ackSuccess = .success ∧
    ackReason p p.ackRegisterNotExist = .registerNotExist ∧
    ackReason p p.ackInvalidData = .invalidData ∧
    ackReason p p.ackOperationFailed = .operationFailed ∧
    ∀ a, a ∉ p.acks → ackReason p a = .unknown a

/-- The enumerated views: each code of the COM port and of the baud rate gives its own value, and every
other 32-bit value is UNKNOWN of itself (30_encoding R108). -/
def Obligations.EnumeratedViewsAreTotal : Prop :=
  ∀ p : Params, p.wf →
    comPort p p.comUsb = .usb ∧ comPort p p.comRs485 = .rs485 ∧ comPort p p.comCan = .can ∧
    comPort p p.comVofa = .vofa ∧ (∀ v, v ∉ p.coms → comPort p v = .unknown v) ∧
    baud p p.baud1M = .r1M ∧ baud p p.baud500K = .r500K ∧ baud p p.baud400K = .r400K ∧
    baud p p.baud250K = .r250K ∧ baud p p.baud200K = .r200K ∧ baud p p.baud100K = .r100K ∧
    baud p p.baud50K = .r50K ∧ baud p p.baud25K = .r25K ∧
    ∀ v, v ∉ p.bauds → baud p v = .unknown v

/-! ## The whole machine -/

/-- Every step keeps the invariant: the parameters meet 00_scope R6, and outside IDLE the latch holds a
well-formed host operation whose primitive fits PHASE. -/
def Obligations.StepKeepsInvariant : Prop :=
  ∀ s t : State, Inv s → step s = .next t → Inv t

/-- Everything the engine ever hands to the transport is a well-formed CMD.READ or CMD.WRITE: RID_RESTORE
is never written, the output-selection register never written, a telemetry register never written
(30_encoding R110, 44_maintenance_ops R267, R268). -/
def Obligations.EverySentFrameIsACommand : Prop :=
  (∀ s t : State, Inv s → step s = .next t → (∀ f ∈ s.sent, isCommand s.params f) →
    ∀ f ∈ t.sent, isCommand t.params f) ∧
  ∀ (p : Params) (v : Word), p.wf →
    wellFormed p (.cmdRead 0xFF) = false ∧ wellFormed p (.cmdWrite 0xFF v) = false ∧
    wellFormed p (.cmdWrite p.ridOutputSel v) = false ∧
    ∀ k, wellFormed p (.cmdWrite (p.ridOf k) v) = false

/-- Every step but a cache read is a row of the table in 40_protocol_engine R148: from its phase, under
its condition, to its phase, writing what it says and nothing else; an idle engine without a command is
left alone. `u` is the state after the environment's turn and `f` the frame a transmit step sends; a wait
or drain row reads its condition on the head of `u.rxQueue`, where `matchesAck`, `isTelemetry` and
`matchesTlm` (Sys2Proof/Safety.lean) are MatchAck, TLM(k) and MatchTlm. The record of sent frames and the
count of draws that an issued POLL advances are the model's own (log entries 19 and 6). -/
def Obligations.PhaseTransitionsFollowTable : Prop :=
  ∀ (s t u : State) (f : Frame), Inv s → step s = .next t → (∀ a, s.nextTurn.host ≠ .readCache a) →
    u = s.afterTurn → f = buildCommand u.slaveId u.latch.reg u.latch.mode u.latch.value →
    match s.phase, t.phase with
    | .idle, .idle =>
      s.nextTurn.host = .wait ∧ t = u ∨
        ∃ c, s.nextTurn.host = .command c ∧
          (∀ i, decodeHost c = .ok i → wellFormed u.params i = false) ∧
          t = { u with result := .refused }
    | .idle, .drain =>
      ∃ c i, s.nextTurn.host = .command c ∧ decodeHost c = .ok i ∧ t.running i = true ∧
        t.latch.kind = .poll ∧
        t = { u with latch := t.latch, draws := t.draws, pollHit := false, phase := .drain }
    | .idle, .tx =>
      ∃ c i, s.nextTurn.host = .command c ∧ decodeHost c = .ok i ∧ t.running i = true ∧
        t.latch.kind ≠ .poll ∧ t = { u with latch := t.latch, phase := .tx }
    | .tx, .idle =>
      u.txAnswer < 0 ∧ t = { u with sent := u.sent ++ [f], result := .txFail, phase := .idle } ∨
        0 ≤ u.txAnswer ∧ u.latch.kind = .reqTlm ∧
          t = { u with sent := u.sent ++ [f], result := .ok 0, phase := .idle }
    | .tx, .waitAck =>
      0 ≤ u.txAnswer ∧ (u.latch.kind = .read ∨ u.latch.kind = .write) ∧
        t = { u with sent := u.sent ++ [f], tStart := BitVec.ofNat 32 u.time, phase := .waitAck }
    | .tx, .waitTlm =>
      0 ≤ u.txAnswer ∧ u.latch.kind = .readTlm ∧
        t = { u with sent := u.sent ++ [f], tStart := BitVec.ofNat 32 u.time, phase := .waitTlm }
    | .waitAck, .waitAck =>
      u.timedOut = false ∧
        (u.rxQueue = [] ∧ t = u ∨
          ∃ g q, u.rxQueue = g :: q ∧ (∀ d, ¬ u.matchesAck g d) ∧ t = { u with rxQueue := q })
    | .waitAck, .idle =>
      u.timedOut = true ∧ t = { u with result := .timeout, phase := .idle } ∨
        u.timedOut = false ∧ ∃ g q d, u.rxQueue = g :: q ∧ u.matchesAck g d ∧
          (d.d2 = u.params.ackSuccess ∧
            t = { u with
              rxQueue := q,
              slaveId := if u.latch.opc = 0x17 then u.latch.value.extractLsb 10 0 else u.slaveId,
              masterId := if u.latch.opc = 0x15 ∧ u.params.mstWriteback = true
                then u.latch.value.extractLsb 10 0 else u.masterId,
              result := .ok (if u.latch.kind = .read then d.le32 else 0), phase := .idle } ∨
          d.d2 ≠ u.params.ackSuccess ∧
            t = { u with rxQueue := q, result := .nack d.d2, phase := .idle })
    | .waitTlm, .waitTlm =>
      u.timedOut = false ∧
        (u.rxQueue = [] ∧ t = u ∨
          ∃ g q, u.rxQueue = g :: q ∧ (∀ d k, ¬ u.matchesTlm g d k) ∧ t = { u with rxQueue := q })
    | .waitTlm, .idle =>
      u.timedOut = true ∧ t = { u with result := .timeout, phase := .idle } ∨
        u.timedOut = false ∧ ∃ g q d k, u.rxQueue = g :: q ∧ u.matchesTlm g d k ∧
          t = { u.withGroup k d with rxQueue := q, result := .ok 0, phase := .idle }
    | .drain, .drain =>
      ∃ g q, u.rxQueue = g :: q ∧
        ((∃ d k, u.isTelemetry g d k ∧
            t = { u.withGroup k d with rxQueue := q, pollHit := true }) ∨
          (∀ d k, ¬ u.isTelemetry g d k) ∧ t = { u with rxQueue := q })
    | .drain, .idle =>
      u.rxQueue = [] ∧
        t = { u with result := .ok (if u.pollHit then 1 else 0), phase := .idle }
    | _, _ => False

/-- MASTER_ID and SLAVE_ID change only at the completion step of SET_MASTER_ID or SET_SLAVE_ID with
outcome OK, to the value that the operation wrote (20_memory R77 (d), 10_state R21). -/
def Obligations.IdentifiersChangeOnlyOnConfirmedSet : Prop :=
  ∀ s t : State, Inv s → step s = .next t →
    (t.slaveId ≠ s.slaveId → s.phase = .waitAck ∧ s.latch.opc = 0x17 ∧ t.phase = .idle ∧
      t.result = .ok 0 ∧ t.slaveId = s.latch.value.extractLsb 10 0 ∧ t.masterId = s.masterId) ∧
    (t.masterId ≠ s.masterId → s.phase = .waitAck ∧ s.latch.opc = 0x15 ∧
      s.params.mstWriteback = true ∧ t.phase = .idle ∧ t.result = .ok 0 ∧
      t.masterId = s.latch.value.extractLsb 10 0 ∧ t.slaveId = s.slaveId)

/-- The cache changes only inside POLL and at the OK completion of a READ_x, and then in one group `k`,
that of the READ_x: every other group keeps its codes (20_memory R77 (c), 10_state R24), and no written
group becomes NONE (10_state R23). -/
def Obligations.CacheChangesOnlyInPollOrRead : Prop :=
  ∀ s t : State, Inv s → step s = .next t → ∃ k : Kind,
    (k ≠ .accel → t.accel = s.accel) ∧ (k ≠ .gyro → t.gyro = s.gyro) ∧
    (k ≠ .euler → t.euler = s.euler) ∧ (k ≠ .quat → t.quat = s.quat) ∧
    ((t.accel, t.gyro, t.euler, t.quat) ≠ (s.accel, s.gyro, s.euler, s.quat) →
      s.phase = .drain ∧ (∃ tmo, s.running (.poll tmo) = true) ∧ t.pollHit = true ∨
      s.phase = .waitTlm ∧ t.phase = .idle ∧ t.result = .ok 0 ∧
        ∃ tmo i, (i, k) ∈ telemetryReads tmo ∧ s.running i = true) ∧
    ∀ k', s.written k' = true → t.written k' = true

/-- A step hands at most one frame to the transport, from the slave identifier in force, and only in
the transmit step, which always leaves phase TX: so no operation sends a second frame
(40_protocol_engine R133, R149, R151). -/
def Obligations.OneFramePerTransmitStep : Prop :=
  ∀ s t : State, step s = .next t →
    t.sent = s.sent ∧ (s.phase = .tx → ∃ a, s.nextTurn.host = .readCache a) ∨
    s.phase = .tx ∧ t.phase ≠ .tx ∧
      t.sent = s.sent ++ [buildCommand s.slaveId s.latch.reg s.latch.mode s.latch.value]

/-- Failures leave the state clean: a step that completes no operation with OK changes no identifier,
and outside POLL it changes no cache group (60_exceptions R287). -/
def Obligations.FailuresLeaveStateClean : Prop :=
  ∀ s t : State, step s = .next t →
    (¬ ∃ v, t.phase = .idle ∧ t.result = .ok v ∧ s.phase ≠ .idle) →
    t.masterId = s.masterId ∧ t.slaveId = s.slaveId ∧
    (s.phase ≠ .drain → t.accel = s.accel ∧ t.gyro = s.gyro ∧ t.euler = s.euler ∧ t.quat = s.quat)

/-- No step faults, and a step answers no next state only on a cache read at a reserved address
(60_exceptions R280, 10_state R25). -/
def Obligations.StepNeverFaults : Prop :=
  ∀ s : State, (∃ t, step s = .next t) ∨
    ∃ a, s.nextTurn.host = .readCache a ∧ 14 ≤ a.toNat ∧
      step s = .refused (.reservedCacheAddress a)

/-- No step writes the wiring, unsends a frame or sets the true time back (10_state R40, 20_memory R74,
60_exceptions R294); the latch is constant while an operation is in progress (10_state R29). -/
def Obligations.StepKeepsWiringAndLatch : Prop :=
  ∀ s t : State, step s = .next t →
    t.params = s.params ∧ s.time ≤ t.time ∧ s.sent <+: t.sent ∧
    (s.phase ≠ .idle → t.latch = s.latch)

/-! ## Runs of several steps -/

/-- A POLL drains a queue that the environment does not refill: after one step for each waiting frame
and one more, the queue is empty, PHASE is IDLE, and RESULT is OK(1) exactly if POLL_HIT was set or a
waiting frame was telemetry (40_protocol_engine R145, R151). -/
def Obligations.PollDrainsTheQueue : Prop :=
  ∀ (s : State) (rest : List Turn), s.phase = .drain →
    s.script = List.replicate (s.rxQueue.length + 1) (tick 0) ++ rest →
    ∃ t, run (s.rxQueue.length + 1) s = .next t ∧ t.phase = .idle ∧ t.rxQueue = [] ∧
      t.result = .ok (if s.pollHit || s.rxQueue.any (fun f =>
        match classify s.params s.masterId f with
        | .telemetry _ _ => true
        | .foreign | .short | .ack _ _ _ | .other => false) then 1 else 0)

/-- A whole exchange: a getter issued to an idle engine with an empty queue, a transport that accepts,
a device that answers within the timeout into a queue that can hold a frame; after three steps the value
stands in RESULT and one CMD.READ has been sent (40_protocol_engine R140). -/
def Obligations.GetterExchangeCompletes : Prop :=
  ∀ (s : State) (tmo : Word) (i : Instr) (reg : Byte) (d : Payload) (answer : Int)
    (delay : Nat) (c : HostCmd) (rest : List Turn),
    (i, reg) ∈ getters s.params tmo → decodeHost c = .ok i → s.phase = .idle →
    s.rxQueue = [] → s.params.rxCapacity.depth ≠ some 0 → 0 ≤ answer → delay < tmo.toNat →
    d.d0 = 0xCC → d.d1 = reg → d.d2 = s.params.ackSuccess → d.d3 = 0xDD →
    s.script = ⟨0, 0, [], 0, .command c⟩ :: ⟨0, 0, [], answer, .wait⟩ ::
      ⟨delay, 0, [d.frame s.masterId], 0, .wait⟩ :: rest →
    ∃ t, run 3 s = .next t ∧ t.phase = .idle ∧ t.result = .ok d.le32 ∧ t.rxQueue = [] ∧
      t.sent = s.sent ++ [buildCommand s.slaveId reg 0 0] ∧ t.masterId = s.masterId ∧
      t.slaveId = s.slaveId

/-- A wait that nothing ends stays a wait until the millisecond in which the elapsed time reaches
REQ_TMO, and completes TIMEOUT in that step (40_protocol_engine R136, R151; 60_exceptions R295). -/
def Obligations.UnansweredWaitTimesOut : Prop :=
  ∀ (s : State) (n : Nat) (rest : List Turn), s.phase = .waitAck ∨ s.phase = .waitTlm →
    s.rxQueue = [] → 0 < n →
    (BitVec.ofNat 32 s.time - s.tStart).toNat + n = s.latch.tmo.toNat →
    s.script = List.replicate n (tick 1) ++ rest →
    (∃ t, run n s = .next t ∧ t.phase = .idle ∧ t.result = .timeout) ∧
    ∀ m, m < n → ∃ t, run m s = .next t ∧ t.phase = s.phase ∧ t.result = s.result

/-! ## Views of RESULT and of a 32-bit value -/

/-- RES_TAG, RES_VALUE and RES_ACK: the six tag codes, a value under tag OK alone, an ack byte under tag
NACK alone, and no two outcomes with the same tag, value and ack byte (10_state R33). The Boolean view
is RES_TAG = OK; the optional view gives the value of OK, the sentinel for TIMEOUT and absent for TX_FAIL
and NACK (60_exceptions R288). That NONE and REFUSED are absent too is the model's choice (log
entry 24). -/
def Obligations.ResultViewsFollowTags : Prop :=
  (∀ (v : Word) (a : Byte),
    OpResult.none.tag = 0 ∧ (OpResult.ok v).tag = 1 ∧ OpResult.txFail.tag = 2 ∧
    OpResult.timeout.tag = 3 ∧ (OpResult.nack a).tag = 4 ∧ OpResult.refused.tag = 5) ∧
  (∀ (r : OpResult) (v : Word), r.value = some v ↔ r = .ok v) ∧
  (∀ (r : OpResult) (a : Byte), r.ackByte = some a ↔ r = .nack a) ∧
  (∀ r r' : OpResult, r.tag = r'.tag → r.value = r'.value → r.ackByte = r'.ackByte → r = r') ∧
  (∀ r : OpResult, r.success = true ↔ r.tag = 1) ∧
  ∀ r : OpResult,
    (∀ v, r.sentinelView = .value v ↔ r = .ok v) ∧
    (r.sentinelView = .timedOut ↔ r = .timeout) ∧
    (r.sentinelView = .absent ↔
      r = .txFail ∨ (∃ a, r = .nack a) ∨ r = .none ∨ r = .refused)

/-- The other views of a 32-bit value: it is a valid CAN identifier iff it is at most 0x7FF, the active
mode is true iff it is not 0, the active delay is its number of milliseconds, unsigned (30_encoding
R109). -/
def Obligations.ValueViewsFollowTypes : Prop :=
  ∀ v : Word,
    (isIdentifier v = true ↔ v.toNat ≤ 0x7FF) ∧ (activeModeView v = true ↔ v.toNat ≠ 0) ∧
    activeDelayView v = v.toNat

/-! ## The table of ranges -/

/-- The table of 41_telemetry_codec R190 in numbers: for each register the range, the width in bits, the
decoded value as the least value plus the code times the step of the table, and the greatest value at the
greatest code; TEMP is its byte. -/
def Obligations.DecodedValuesFollowRangeTable : Prop :=
  ∀ c : BitVec 16,
    (∀ r ∈ [CacheReg.accX, .accY, .accZ], rangeMax r = some (1176 / 5) ∧ codeWidth r = 16 ∧
      decodedValue r c = -(1176 / 5) + (c.toNat : Rat) * (784 / 109225) ∧
      (c.toNat = 65535 → decodedValue r c = 1176 / 5)) ∧
    (∀ r ∈ [CacheReg.gyrX, .gyrY, .gyrZ], rangeMax r = some (872 / 25) ∧ codeWidth r = 16 ∧
      decodedValue r c = -(872 / 25) + (c.toNat : Rat) * (1744 / 1638375) ∧
      (c.toNat = 65535 → decodedValue r c = 872 / 25)) ∧
    (rangeMax .eulPitch = some 90 ∧ codeWidth .eulPitch = 16 ∧
      decodedValue .eulPitch c = -90 + (c.toNat : Rat) * (12 / 4369) ∧
      (c.toNat = 65535 → decodedValue .eulPitch c = 90)) ∧
    (∀ r ∈ [CacheReg.eulYaw, .eulRoll], rangeMax r = some 180 ∧ codeWidth r = 16 ∧
      decodedValue r c = -180 + (c.toNat : Rat) * (24 / 4369) ∧
      (c.toNat = 65535 → decodedValue r c = 180)) ∧
    (∀ r ∈ [CacheReg.quatW, .quatX, .quatY, .quatZ], rangeMax r = some 1 ∧ codeWidth r = 14 ∧
      decodedValue r c = -1 + (c.toNat : Rat) * (2 / 16383) ∧
      (c.toNat = 16383 → decodedValue r c = 1)) ∧
    rangeMax .temp = none ∧ codeWidth .temp = 8 ∧ decodedValue .temp c = (c.toNat : Rat)

/-! ## The receive queue -/

/-- What a turn does to the receive queue under RX_CAPACITY: another reader takes the oldest frames, the
`q` that are left wait on, and frames that find room join them at their end in their order; of more
frames than it holds, the policy keeps the first ones or the last ones (00_scope R6, 10_state R41,
20_memory R75, 60_exceptions R298, 70_reset R326). That the policy is one of these two, and that frames
are taken before frames arrive, is the model's choice (log entry 16). -/
def Obligations.ArrivalsFollowCapacity : Prop :=
  ∀ (s : State) (q : List Frame), q = s.rxQueue.drop s.nextTurn.taken →
    (s.nextTurn.arrivals = [] → s.afterTurn.rxQueue = q) ∧
    ((∀ n, s.params.rxCapacity.depth = some n → q.length + s.nextTurn.arrivals.length ≤ n) →
      s.afterTurn.rxQueue = q ++ s.nextTurn.arrivals) ∧
    ∀ n, s.params.rxCapacity.depth = some n → s.rxQueue.length ≤ n →
      match s.params.rxCapacity.overflow with
      | .dropNewest => s.afterTurn.rxQueue = (q ++ s.nextTurn.arrivals).take n
      | .dropOldest =>
        s.afterTurn.rxQueue = (q ++ s.nextTurn.arrivals).drop
          (q.length + s.nextTurn.arrivals.length - n)

/-- No step makes the receive queue longer than RX_CAPACITY lets it be (00_scope R6). -/
def Obligations.StepKeepsQueueWithinCapacity : Prop :=
  ∀ s t : State, s.queueFits → step s = .next t → t.queueFits

/-- The receive queue that the engine finds at construction is within RX_CAPACITY (00_scope R6,
70_reset R322); which frames it holds is a free constant (log entry 4). -/
def Obligations.ResetQueueIsWithinCapacity : Prop :=
  State.reset.queueFits

/-- With another reader on the transport the engine's behaviour is given by its rules, applied to the
frames it does see: a step in whose turn frames are taken is the step of an engine that finds them gone
(10_state R41, 70_reset R326). That a turn's frames are taken before its frames arrive is the model's
choice (log entry 16). -/
def Obligations.TakenFramesAreNeverSeen : Prop :=
  ∀ (s : State) (t : Turn) (rest : List Turn), s.script = t :: rest →
    step s = step { s with
      rxQueue := s.rxQueue.drop t.taken, script := { t with taken := 0 } :: rest }

/-- The engine sees a subsequence of the frames, whoever else reads: after a step the queue holds frames
that waited or arrived, in their order, and no others (20_memory R75, 10_state R41, 93 U17). -/
def Obligations.FramesSeenAreASubsequence : Prop :=
  ∀ s t : State, step s = .next t → t.rxQueue.Sublist (s.rxQueue ++ s.nextTurn.arrivals)
end

