-- ==== Sys2Proof/Laws/Transport.lean ====
section
/-! SUPPORT. What the transport's receive queue can be after frames have arrived. -/

namespace Sys2Proof.Machine

/-- Everything one arrival can do: the frame joins the queue at its end, or the queue is full and one
frame is lost by the policy. -/
theorem enqueue_cases (c : RxCapacity) (q : List Frame) (f : Frame) :
    ((∀ n, c.depth = some n → q.length < n) ∧ enqueue c q f = q ++ [f]) ∨
    ∃ n, c.depth = some n ∧ n ≤ q.length ∧
      ((c.overflow = .dropNewest ∧ enqueue c q f = q) ∨
        (c.overflow = .dropOldest ∧ enqueue c q f = (q ++ [f]).tail)) := by
  unfold enqueue
  cases hd : c.depth with
  | none => exact .inl ⟨by simp, rfl⟩
  | some n =>
    by_cases h : q.length < n
    · exact .inl ⟨by simpa using h, by simp [h]⟩
    · refine .inr ⟨n, rfl, Nat.le_of_not_lt h, ?_⟩
      cases c.overflow <;> simp [h]

/-- One arrival keeps the queue within its depth. -/
theorem enqueue_length_le {c : RxCapacity} {q : List Frame} {n : Nat} (f : Frame)
    (hd : c.depth = some n) (hq : q.length ≤ n) : (enqueue c q f).length ≤ n := by
  rcases enqueue_cases c q f with ⟨h, e⟩ | ⟨m, -, -, ⟨-, e⟩ | ⟨-, e⟩⟩ <;> rw [e]
  · simpa using h n hd
  · exact hq
  · simpa using hq

/-- One arrival only adds at the end and only loses frames: order is kept. -/
theorem enqueue_sublist (c : RxCapacity) (q : List Frame) (f : Frame) :
    (enqueue c q f).Sublist (q ++ [f]) := by
  rcases enqueue_cases c q f with ⟨-, e⟩ | ⟨m, -, -, ⟨-, e⟩ | ⟨-, e⟩⟩ <;> rw [e]
  · exact List.sublist_append_left q [f]
  · exact List.tail_sublist _

@[simp] theorem enqueueAll_nil (c : RxCapacity) (q : List Frame) : enqueueAll c q [] = q := rfl

@[simp] theorem enqueueAll_cons (c : RxCapacity) (q : List Frame) (f : Frame) (fs : List Frame) :
    enqueueAll c q (f :: fs) = enqueueAll c (enqueue c q f) fs := rfl

/-- Arrivals only add at the end and only lose frames: order is kept. -/
theorem enqueueAll_sublist (c : RxCapacity) (q fs : List Frame) :
    (enqueueAll c q fs).Sublist (q ++ fs) := by
  induction fs generalizing q with
  | nil => simp
  | cons f fs ih =>
    have h := (ih (enqueue c q f)).trans ((enqueue_sublist c q f).append_right fs)
    simpa using h

/-- Arrivals keep the queue within its depth. -/
theorem enqueueAll_length_le {c : RxCapacity} {q : List Frame} {n : Nat} (fs : List Frame)
    (hd : c.depth = some n) (hq : q.length ≤ n) : (enqueueAll c q fs).length ≤ n := by
  induction fs generalizing q with
  | nil => exact hq
  | cons f fs ih => exact ih (enqueue_length_le f hd hq)

/-- A turn in which nobody else reads the queue only lets frames arrive. -/
theorem queueAfter_of_taken_zero {c : RxCapacity} {t : Turn} (q : List Frame) (h : t.taken = 0) :
    queueAfter c t q = enqueueAll c q t.arrivals := by
  rw [queueAfter, h, List.drop_zero]

/-- A turn in which nothing is taken and nothing arrives leaves the queue as it is. -/
@[simp] theorem queueAfter_quiet (c : RxCapacity) (q : List Frame) (ms : Nat) (answer : Int)
    (m : HostMove) : queueAfter c ⟨ms, 0, [], answer, m⟩ q = q := rfl

/-- A turn leaves frames that waited or arrived, in their order, and no others. -/
theorem queueAfter_sublist (c : RxCapacity) (t : Turn) (q : List Frame) :
    (queueAfter c t q).Sublist (q ++ t.arrivals) :=
  (enqueueAll_sublist c _ _).trans ((List.drop_sublist t.taken q).append_right t.arrivals)

/-- A turn keeps the queue within its depth. -/
theorem queueAfter_length_le {c : RxCapacity} {t : Turn} {q : List Frame} {n : Nat}
    (hd : c.depth = some n) (hq : q.length ≤ n) : (queueAfter c t q).length ≤ n :=
  enqueueAll_length_le _ hd (by rw [List.length_drop]; omega)

end Sys2Proof.Machine
end

