-- ==== Sys2Proof/Laws/State.lean ====
section
/-! SUPPORT. The fields of a state after each named update: one lemma per field, true by rfl, so that
no proof unfolds a record update. -/

namespace Sys2Proof.Machine

/-! ## complete -/

@[simp] theorem State.complete_masterId (r : OpResult) (s : State) : (s.complete r).masterId = s.masterId := rfl
@[simp] theorem State.complete_slaveId (r : OpResult) (s : State) : (s.complete r).slaveId = s.slaveId := rfl
@[simp] theorem State.complete_accel (r : OpResult) (s : State) : (s.complete r).accel = s.accel := rfl
@[simp] theorem State.complete_gyro (r : OpResult) (s : State) : (s.complete r).gyro = s.gyro := rfl
@[simp] theorem State.complete_euler (r : OpResult) (s : State) : (s.complete r).euler = s.euler := rfl
@[simp] theorem State.complete_quat (r : OpResult) (s : State) : (s.complete r).quat = s.quat := rfl
@[simp] theorem State.complete_phase (r : OpResult) (s : State) : (s.complete r).phase = .idle := rfl
@[simp] theorem State.complete_latch (r : OpResult) (s : State) : (s.complete r).latch = s.latch := rfl
@[simp] theorem State.complete_tStart (r : OpResult) (s : State) : (s.complete r).tStart = s.tStart := rfl
@[simp] theorem State.complete_pollHit (r : OpResult) (s : State) : (s.complete r).pollHit = s.pollHit := rfl
@[simp] theorem State.complete_result (r : OpResult) (s : State) : (s.complete r).result = r := rfl
@[simp] theorem State.complete_rxQueue (r : OpResult) (s : State) : (s.complete r).rxQueue = s.rxQueue := rfl
@[simp] theorem State.complete_time (r : OpResult) (s : State) : (s.complete r).time = s.time := rfl
@[simp] theorem State.complete_txAnswer (r : OpResult) (s : State) : (s.complete r).txAnswer = s.txAnswer := rfl
@[simp] theorem State.complete_sent (r : OpResult) (s : State) : (s.complete r).sent = s.sent := rfl
@[simp] theorem State.complete_script (r : OpResult) (s : State) : (s.complete r).script = s.script := rfl
@[simp] theorem State.complete_turns (r : OpResult) (s : State) : (s.complete r).turns = s.turns := rfl
@[simp] theorem State.complete_cacheData (r : OpResult) (s : State) : (s.complete r).cacheData = s.cacheData := rfl
@[simp] theorem State.complete_draws (r : OpResult) (s : State) : (s.complete r).draws = s.draws := rfl
@[simp] theorem State.complete_params (r : OpResult) (s : State) : (s.complete r).params = s.params := rfl

/-! ## hand -/

@[simp] theorem State.hand_masterId (f : Frame) (s : State) : (s.hand f).masterId = s.masterId := rfl
@[simp] theorem State.hand_slaveId (f : Frame) (s : State) : (s.hand f).slaveId = s.slaveId := rfl
@[simp] theorem State.hand_accel (f : Frame) (s : State) : (s.hand f).accel = s.accel := rfl
@[simp] theorem State.hand_gyro (f : Frame) (s : State) : (s.hand f).gyro = s.gyro := rfl
@[simp] theorem State.hand_euler (f : Frame) (s : State) : (s.hand f).euler = s.euler := rfl
@[simp] theorem State.hand_quat (f : Frame) (s : State) : (s.hand f).quat = s.quat := rfl
@[simp] theorem State.hand_phase (f : Frame) (s : State) : (s.hand f).phase = s.phase := rfl
@[simp] theorem State.hand_latch (f : Frame) (s : State) : (s.hand f).latch = s.latch := rfl
@[simp] theorem State.hand_tStart (f : Frame) (s : State) : (s.hand f).tStart = s.tStart := rfl
@[simp] theorem State.hand_pollHit (f : Frame) (s : State) : (s.hand f).pollHit = s.pollHit := rfl
@[simp] theorem State.hand_result (f : Frame) (s : State) : (s.hand f).result = s.result := rfl
@[simp] theorem State.hand_rxQueue (f : Frame) (s : State) : (s.hand f).rxQueue = s.rxQueue := rfl
@[simp] theorem State.hand_time (f : Frame) (s : State) : (s.hand f).time = s.time := rfl
@[simp] theorem State.hand_txAnswer (f : Frame) (s : State) : (s.hand f).txAnswer = s.txAnswer := rfl
@[simp] theorem State.hand_sent (f : Frame) (s : State) : (s.hand f).sent = s.sent ++ [f] := rfl
@[simp] theorem State.hand_script (f : Frame) (s : State) : (s.hand f).script = s.script := rfl
@[simp] theorem State.hand_turns (f : Frame) (s : State) : (s.hand f).turns = s.turns := rfl
@[simp] theorem State.hand_cacheData (f : Frame) (s : State) : (s.hand f).cacheData = s.cacheData := rfl
@[simp] theorem State.hand_draws (f : Frame) (s : State) : (s.hand f).draws = s.draws := rfl
@[simp] theorem State.hand_params (f : Frame) (s : State) : (s.hand f).params = s.params := rfl

/-! ## refuse -/

@[simp] theorem State.refuse_masterId (s : State) : s.refuse.masterId = s.masterId := rfl
@[simp] theorem State.refuse_slaveId (s : State) : s.refuse.slaveId = s.slaveId := rfl
@[simp] theorem State.refuse_accel (s : State) : s.refuse.accel = s.accel := rfl
@[simp] theorem State.refuse_gyro (s : State) : s.refuse.gyro = s.gyro := rfl
@[simp] theorem State.refuse_euler (s : State) : s.refuse.euler = s.euler := rfl
@[simp] theorem State.refuse_quat (s : State) : s.refuse.quat = s.quat := rfl
@[simp] theorem State.refuse_phase (s : State) : s.refuse.phase = s.phase := rfl
@[simp] theorem State.refuse_latch (s : State) : s.refuse.latch = s.latch := rfl
@[simp] theorem State.refuse_tStart (s : State) : s.refuse.tStart = s.tStart := rfl
@[simp] theorem State.refuse_pollHit (s : State) : s.refuse.pollHit = s.pollHit := rfl
@[simp] theorem State.refuse_result (s : State) : s.refuse.result = .refused := rfl
@[simp] theorem State.refuse_rxQueue (s : State) : s.refuse.rxQueue = s.rxQueue := rfl
@[simp] theorem State.refuse_time (s : State) : s.refuse.time = s.time := rfl
@[simp] theorem State.refuse_txAnswer (s : State) : s.refuse.txAnswer = s.txAnswer := rfl
@[simp] theorem State.refuse_sent (s : State) : s.refuse.sent = s.sent := rfl
@[simp] theorem State.refuse_script (s : State) : s.refuse.script = s.script := rfl
@[simp] theorem State.refuse_turns (s : State) : s.refuse.turns = s.turns := rfl
@[simp] theorem State.refuse_cacheData (s : State) : s.refuse.cacheData = s.cacheData := rfl
@[simp] theorem State.refuse_draws (s : State) : s.refuse.draws = s.draws := rfl
@[simp] theorem State.refuse_params (s : State) : s.refuse.params = s.params := rfl

/-! ## environment -/

@[simp] theorem State.environment_masterId (t : Turn) (s : State) : (s.environment t).masterId = s.masterId := rfl
@[simp] theorem State.environment_slaveId (t : Turn) (s : State) : (s.environment t).slaveId = s.slaveId := rfl
@[simp] theorem State.environment_accel (t : Turn) (s : State) : (s.environment t).accel = s.accel := rfl
@[simp] theorem State.environment_gyro (t : Turn) (s : State) : (s.environment t).gyro = s.gyro := rfl
@[simp] theorem State.environment_euler (t : Turn) (s : State) : (s.environment t).euler = s.euler := rfl
@[simp] theorem State.environment_quat (t : Turn) (s : State) : (s.environment t).quat = s.quat := rfl
@[simp] theorem State.environment_phase (t : Turn) (s : State) : (s.environment t).phase = s.phase := rfl
@[simp] theorem State.environment_latch (t : Turn) (s : State) : (s.environment t).latch = s.latch := rfl
@[simp] theorem State.environment_tStart (t : Turn) (s : State) : (s.environment t).tStart = s.tStart := rfl
@[simp] theorem State.environment_pollHit (t : Turn) (s : State) : (s.environment t).pollHit = s.pollHit := rfl
@[simp] theorem State.environment_result (t : Turn) (s : State) : (s.environment t).result = s.result := rfl
@[simp] theorem State.environment_rxQueue (t : Turn) (s : State) : (s.environment t).rxQueue =
    queueAfter s.params.rxCapacity t s.rxQueue := rfl
@[simp] theorem State.environment_time (t : Turn) (s : State) : (s.environment t).time = s.time + t.elapse := rfl
@[simp] theorem State.environment_txAnswer (t : Turn) (s : State) : (s.environment t).txAnswer = t.txAnswer := rfl
@[simp] theorem State.environment_sent (t : Turn) (s : State) : (s.environment t).sent = s.sent := rfl
@[simp] theorem State.environment_script (t : Turn) (s : State) : (s.environment t).script = s.script := rfl
@[simp] theorem State.environment_turns (t : Turn) (s : State) : (s.environment t).turns = s.turns := rfl
@[simp] theorem State.environment_cacheData (t : Turn) (s : State) : (s.environment t).cacheData = none := rfl
@[simp] theorem State.environment_draws (t : Turn) (s : State) : (s.environment t).draws = s.draws := rfl
@[simp] theorem State.environment_params (t : Turn) (s : State) : (s.environment t).params = s.params := rfl

/-! ## store: a decode touches one cache group -/

@[simp] theorem State.store_masterId (c : Telemetry) (s : State) : (s.store c).masterId = s.masterId := by
  cases c <;> rfl
@[simp] theorem State.store_slaveId (c : Telemetry) (s : State) : (s.store c).slaveId = s.slaveId := by
  cases c <;> rfl
@[simp] theorem State.store_phase (c : Telemetry) (s : State) : (s.store c).phase = s.phase := by
  cases c <;> rfl
@[simp] theorem State.store_latch (c : Telemetry) (s : State) : (s.store c).latch = s.latch := by
  cases c <;> rfl
@[simp] theorem State.store_tStart (c : Telemetry) (s : State) : (s.store c).tStart = s.tStart := by
  cases c <;> rfl
@[simp] theorem State.store_pollHit (c : Telemetry) (s : State) : (s.store c).pollHit = s.pollHit := by
  cases c <;> rfl
@[simp] theorem State.store_result (c : Telemetry) (s : State) : (s.store c).result = s.result := by
  cases c <;> rfl
@[simp] theorem State.store_rxQueue (c : Telemetry) (s : State) : (s.store c).rxQueue = s.rxQueue := by
  cases c <;> rfl
@[simp] theorem State.store_time (c : Telemetry) (s : State) : (s.store c).time = s.time := by
  cases c <;> rfl
@[simp] theorem State.store_txAnswer (c : Telemetry) (s : State) : (s.store c).txAnswer = s.txAnswer := by
  cases c <;> rfl
@[simp] theorem State.store_sent (c : Telemetry) (s : State) : (s.store c).sent = s.sent := by
  cases c <;> rfl
@[simp] theorem State.store_script (c : Telemetry) (s : State) : (s.store c).script = s.script := by
  cases c <;> rfl
@[simp] theorem State.store_turns (c : Telemetry) (s : State) : (s.store c).turns = s.turns := by
  cases c <;> rfl
@[simp] theorem State.store_cacheData (c : Telemetry) (s : State) : (s.store c).cacheData = s.cacheData := by
  cases c <;> rfl
@[simp] theorem State.store_draws (c : Telemetry) (s : State) : (s.store c).draws = s.draws := by
  cases c <;> rfl
@[simp] theorem State.store_params (c : Telemetry) (s : State) : (s.store c).params = s.params := by
  cases c <;> rfl

/-! ## writeBack: at most the two identifiers -/

@[simp] theorem State.writeBack_accel (s : State) : s.writeBack.accel = s.accel := by
  unfold State.writeBack; split <;> [rfl; split <;> rfl]
@[simp] theorem State.writeBack_gyro (s : State) : s.writeBack.gyro = s.gyro := by
  unfold State.writeBack; split <;> [rfl; split <;> rfl]
@[simp] theorem State.writeBack_euler (s : State) : s.writeBack.euler = s.euler := by
  unfold State.writeBack; split <;> [rfl; split <;> rfl]
@[simp] theorem State.writeBack_quat (s : State) : s.writeBack.quat = s.quat := by
  unfold State.writeBack; split <;> [rfl; split <;> rfl]
@[simp] theorem State.writeBack_phase (s : State) : s.writeBack.phase = s.phase := by
  unfold State.writeBack; split <;> [rfl; split <;> rfl]
@[simp] theorem State.writeBack_latch (s : State) : s.writeBack.latch = s.latch := by
  unfold State.writeBack; split <;> [rfl; split <;> rfl]
@[simp] theorem State.writeBack_tStart (s : State) : s.writeBack.tStart = s.tStart := by
  unfold State.writeBack; split <;> [rfl; split <;> rfl]
@[simp] theorem State.writeBack_pollHit (s : State) : s.writeBack.pollHit = s.pollHit := by
  unfold State.writeBack; split <;> [rfl; split <;> rfl]
@[simp] theorem State.writeBack_result (s : State) : s.writeBack.result = s.result := by
  unfold State.writeBack; split <;> [rfl; split <;> rfl]
@[simp] theorem State.writeBack_rxQueue (s : State) : s.writeBack.rxQueue = s.rxQueue := by
  unfold State.writeBack; split <;> [rfl; split <;> rfl]
@[simp] theorem State.writeBack_time (s : State) : s.writeBack.time = s.time := by
  unfold State.writeBack; split <;> [rfl; split <;> rfl]
@[simp] theorem State.writeBack_txAnswer (s : State) : s.writeBack.txAnswer = s.txAnswer := by
  unfold State.writeBack; split <;> [rfl; split <;> rfl]
@[simp] theorem State.writeBack_sent (s : State) : s.writeBack.sent = s.sent := by
  unfold State.writeBack; split <;> [rfl; split <;> rfl]
@[simp] theorem State.writeBack_script (s : State) : s.writeBack.script = s.script := by
  unfold State.writeBack; split <;> [rfl; split <;> rfl]
@[simp] theorem State.writeBack_turns (s : State) : s.writeBack.turns = s.turns := by
  unfold State.writeBack; split <;> [rfl; split <;> rfl]
@[simp] theorem State.writeBack_cacheData (s : State) : s.writeBack.cacheData = s.cacheData := by
  unfold State.writeBack; split <;> [rfl; split <;> rfl]
@[simp] theorem State.writeBack_draws (s : State) : s.writeBack.draws = s.draws := by
  unfold State.writeBack; split <;> [rfl; split <;> rfl]
@[simp] theorem State.writeBack_params (s : State) : s.writeBack.params = s.params := by
  unfold State.writeBack; split <;> [rfl; split <;> rfl]

/-! ## issue: the latch, POLL_HIT, PHASE and the count of draws -/

@[simp] theorem State.issue_masterId (opc : BitVec 6) (tmo : Word) (prim : Primitive) (s : State) :
    (s.issue opc tmo prim).masterId = s.masterId := by
  cases prim <;> rfl
@[simp] theorem State.issue_slaveId (opc : BitVec 6) (tmo : Word) (prim : Primitive) (s : State) :
    (s.issue opc tmo prim).slaveId = s.slaveId := by
  cases prim <;> rfl
@[simp] theorem State.issue_accel (opc : BitVec 6) (tmo : Word) (prim : Primitive) (s : State) :
    (s.issue opc tmo prim).accel = s.accel := by
  cases prim <;> rfl
@[simp] theorem State.issue_gyro (opc : BitVec 6) (tmo : Word) (prim : Primitive) (s : State) :
    (s.issue opc tmo prim).gyro = s.gyro := by
  cases prim <;> rfl
@[simp] theorem State.issue_euler (opc : BitVec 6) (tmo : Word) (prim : Primitive) (s : State) :
    (s.issue opc tmo prim).euler = s.euler := by
  cases prim <;> rfl
@[simp] theorem State.issue_quat (opc : BitVec 6) (tmo : Word) (prim : Primitive) (s : State) :
    (s.issue opc tmo prim).quat = s.quat := by
  cases prim <;> rfl
@[simp] theorem State.issue_tStart (opc : BitVec 6) (tmo : Word) (prim : Primitive) (s : State) :
    (s.issue opc tmo prim).tStart = s.tStart := by
  cases prim <;> rfl
@[simp] theorem State.issue_result (opc : BitVec 6) (tmo : Word) (prim : Primitive) (s : State) :
    (s.issue opc tmo prim).result = s.result := by
  cases prim <;> rfl
@[simp] theorem State.issue_rxQueue (opc : BitVec 6) (tmo : Word) (prim : Primitive) (s : State) :
    (s.issue opc tmo prim).rxQueue = s.rxQueue := by
  cases prim <;> rfl
@[simp] theorem State.issue_time (opc : BitVec 6) (tmo : Word) (prim : Primitive) (s : State) :
    (s.issue opc tmo prim).time = s.time := by
  cases prim <;> rfl
@[simp] theorem State.issue_txAnswer (opc : BitVec 6) (tmo : Word) (prim : Primitive) (s : State) :
    (s.issue opc tmo prim).txAnswer = s.txAnswer := by
  cases prim <;> rfl
@[simp] theorem State.issue_sent (opc : BitVec 6) (tmo : Word) (prim : Primitive) (s : State) :
    (s.issue opc tmo prim).sent = s.sent := by
  cases prim <;> rfl
@[simp] theorem State.issue_script (opc : BitVec 6) (tmo : Word) (prim : Primitive) (s : State) :
    (s.issue opc tmo prim).script = s.script := by
  cases prim <;> rfl
@[simp] theorem State.issue_turns (opc : BitVec 6) (tmo : Word) (prim : Primitive) (s : State) :
    (s.issue opc tmo prim).turns = s.turns := by
  cases prim <;> rfl
@[simp] theorem State.issue_cacheData (opc : BitVec 6) (tmo : Word) (prim : Primitive) (s : State) :
    (s.issue opc tmo prim).cacheData = s.cacheData := by
  cases prim <;> rfl
@[simp] theorem State.issue_params (opc : BitVec 6) (tmo : Word) (prim : Primitive) (s : State) :
    (s.issue opc tmo prim).params = s.params := by
  cases prim <;> rfl

/-! ## readCache: the port and the count of draws -/

@[simp] theorem State.readCache_masterId (r : CacheReg) (s : State) : (s.readCache r).masterId = s.masterId := by
  unfold State.readCache; split <;> rfl
@[simp] theorem State.readCache_slaveId (r : CacheReg) (s : State) : (s.readCache r).slaveId = s.slaveId := by
  unfold State.readCache; split <;> rfl
@[simp] theorem State.readCache_accel (r : CacheReg) (s : State) : (s.readCache r).accel = s.accel := by
  unfold State.readCache; split <;> rfl
@[simp] theorem State.readCache_gyro (r : CacheReg) (s : State) : (s.readCache r).gyro = s.gyro := by
  unfold State.readCache; split <;> rfl
@[simp] theorem State.readCache_euler (r : CacheReg) (s : State) : (s.readCache r).euler = s.euler := by
  unfold State.readCache; split <;> rfl
@[simp] theorem State.readCache_quat (r : CacheReg) (s : State) : (s.readCache r).quat = s.quat := by
  unfold State.readCache; split <;> rfl
@[simp] theorem State.readCache_phase (r : CacheReg) (s : State) : (s.readCache r).phase = s.phase := by
  unfold State.readCache; split <;> rfl
@[simp] theorem State.readCache_latch (r : CacheReg) (s : State) : (s.readCache r).latch = s.latch := by
  unfold State.readCache; split <;> rfl
@[simp] theorem State.readCache_tStart (r : CacheReg) (s : State) : (s.readCache r).tStart = s.tStart := by
  unfold State.readCache; split <;> rfl
@[simp] theorem State.readCache_pollHit (r : CacheReg) (s : State) : (s.readCache r).pollHit = s.pollHit := by
  unfold State.readCache; split <;> rfl
@[simp] theorem State.readCache_result (r : CacheReg) (s : State) : (s.readCache r).result = s.result := by
  unfold State.readCache; split <;> rfl
@[simp] theorem State.readCache_rxQueue (r : CacheReg) (s : State) : (s.readCache r).rxQueue = s.rxQueue := by
  unfold State.readCache; split <;> rfl
@[simp] theorem State.readCache_time (r : CacheReg) (s : State) : (s.readCache r).time = s.time := by
  unfold State.readCache; split <;> rfl
@[simp] theorem State.readCache_txAnswer (r : CacheReg) (s : State) : (s.readCache r).txAnswer = s.txAnswer := by
  unfold State.readCache; split <;> rfl
@[simp] theorem State.readCache_sent (r : CacheReg) (s : State) : (s.readCache r).sent = s.sent := by
  unfold State.readCache; split <;> rfl
@[simp] theorem State.readCache_script (r : CacheReg) (s : State) : (s.readCache r).script = s.script := by
  unfold State.readCache; split <;> rfl
@[simp] theorem State.readCache_turns (r : CacheReg) (s : State) : (s.readCache r).turns = s.turns := by
  unfold State.readCache; split <;> rfl
@[simp] theorem State.readCache_params (r : CacheReg) (s : State) : (s.readCache r).params = s.params := by
  unfold State.readCache; split <;> rfl

/-! ## afterTurn: the environment's fields only -/

@[simp] theorem State.afterTurn_masterId (s : State) : s.afterTurn.masterId = s.masterId := by
  unfold State.afterTurn; split <;> rfl
@[simp] theorem State.afterTurn_slaveId (s : State) : s.afterTurn.slaveId = s.slaveId := by
  unfold State.afterTurn; split <;> rfl
@[simp] theorem State.afterTurn_accel (s : State) : s.afterTurn.accel = s.accel := by
  unfold State.afterTurn; split <;> rfl
@[simp] theorem State.afterTurn_gyro (s : State) : s.afterTurn.gyro = s.gyro := by
  unfold State.afterTurn; split <;> rfl
@[simp] theorem State.afterTurn_euler (s : State) : s.afterTurn.euler = s.euler := by
  unfold State.afterTurn; split <;> rfl
@[simp] theorem State.afterTurn_quat (s : State) : s.afterTurn.quat = s.quat := by
  unfold State.afterTurn; split <;> rfl
@[simp] theorem State.afterTurn_phase (s : State) : s.afterTurn.phase = s.phase := by
  unfold State.afterTurn; split <;> rfl
@[simp] theorem State.afterTurn_latch (s : State) : s.afterTurn.latch = s.latch := by
  unfold State.afterTurn; split <;> rfl
@[simp] theorem State.afterTurn_tStart (s : State) : s.afterTurn.tStart = s.tStart := by
  unfold State.afterTurn; split <;> rfl
@[simp] theorem State.afterTurn_pollHit (s : State) : s.afterTurn.pollHit = s.pollHit := by
  unfold State.afterTurn; split <;> rfl
@[simp] theorem State.afterTurn_result (s : State) : s.afterTurn.result = s.result := by
  unfold State.afterTurn; split <;> rfl
@[simp] theorem State.afterTurn_sent (s : State) : s.afterTurn.sent = s.sent := by
  unfold State.afterTurn; split <;> rfl
@[simp] theorem State.afterTurn_draws (s : State) : s.afterTurn.draws = s.draws := by
  unfold State.afterTurn; split <;> rfl
@[simp] theorem State.afterTurn_params (s : State) : s.afterTurn.params = s.params := by
  unfold State.afterTurn; split <;> rfl

@[simp] theorem State.afterTurn_rxQueue (s : State) :
    s.afterTurn.rxQueue = queueAfter s.params.rxCapacity s.nextTurn s.rxQueue := by
  unfold State.afterTurn State.nextTurn; split <;> rfl

@[simp] theorem State.afterTurn_time (s : State) :
    s.afterTurn.time = s.time + s.nextTurn.elapse := by
  unfold State.afterTurn State.nextTurn; split <;> rfl

@[simp] theorem State.afterTurn_txAnswer (s : State) :
    s.afterTurn.txAnswer = s.nextTurn.txAnswer := by
  unfold State.afterTurn State.nextTurn; split <;> rfl

@[simp] theorem State.afterTurn_cacheData (s : State) : s.afterTurn.cacheData = none := by
  unfold State.afterTurn; split <;> rfl

end Sys2Proof.Machine
end

