-- ==== Sys2Proof/Laws/Ops.lean ====
section
/-! SUPPORT. For each shared operation of the machine, once, everything it can do: the cases that
proofs cite instead of unfolding it. -/

namespace Sys2Proof.Machine

/-- The phases after a transmit step that was accepted and awaits an answer (40_protocol_engine
R133). -/
theorem sendCommand_cases (reg mode : Byte) (value : Word) (s : State) :
    let t := s.hand (buildCommand s.slaveId reg mode value)
    (s.txAnswer < 0 ∧ s.sendCommand reg mode value = t.complete .txFail) ∨
    (¬ s.txAnswer < 0 ∧ s.latch.kind = .reqTlm ∧
      s.sendCommand reg mode value = t.complete (.ok 0)) ∨
    (¬ s.txAnswer < 0 ∧ (s.latch.kind = .read ∨ s.latch.kind = .write) ∧
      s.sendCommand reg mode value = { t with tStart := s.now, phase := .waitAck }) ∨
    (¬ s.txAnswer < 0 ∧ (s.latch.kind = .readTlm ∨ s.latch.kind = .poll) ∧
      s.sendCommand reg mode value = { t with tStart := s.now, phase := .waitTlm }) := by
  intro t
  by_cases h : s.txAnswer < 0
  · exact .inl ⟨h, by simp [State.sendCommand, h, t]⟩
  · cases hk : s.latch.kind <;> simp [State.sendCommand, h, hk, t]

/-- WriteBack changes one identifier or nothing (40_protocol_engine R152). -/
theorem writeBack_cases (s : State) :
    (s.latch.opc = 0x17#6 ∧ s.writeBack = { s with slaveId := s.latch.value.setWidth 11 }) ∨
    (s.latch.opc = 0x15#6 ∧ s.params.mstWriteback = true ∧
      s.writeBack = { s with masterId := s.latch.value.setWidth 11 }) ∨
    (s.latch.opc ≠ 0x17#6 ∧ ¬ (s.latch.opc = 0x15#6 ∧ s.params.mstWriteback = true) ∧
      s.writeBack = s) := by
  by_cases h : s.latch.opc = 0x17#6
  · exact .inl ⟨h, by simp [State.writeBack, h]⟩
  · by_cases h' : s.latch.opc = 0x15#6 ∧ s.params.mstWriteback = true
    · exact .inr (.inl ⟨h'.1, h'.2, by simp [State.writeBack, h']⟩)
    · exact .inr (.inr ⟨h, h', by rw [State.writeBack, if_neg h, if_neg h']⟩)

/-- An exchange completes with OK and write-back, or with NACK (40_protocol_engine R139). -/
theorem ackComplete_cases (ask : Byte) (value : Word) (s : State) :
    (ackReason s.params ask = .success ∧
      s.ackComplete ask value =
        s.writeBack.complete (.ok (if s.latch.kind = .read then value else 0))) ∨
    (ackReason s.params ask ≠ .success ∧ s.ackComplete ask value = s.complete (.nack ask)) := by
  by_cases h : ackReason s.params ask = .success
  · exact .inl ⟨h, by rw [State.ackComplete, if_pos h]⟩
  · exact .inr ⟨h, by rw [State.ackComplete, if_neg h]⟩

/-- An ack byte is a success exactly when it is ACK_SUCCESS (30_encoding R107). -/
theorem ackReason_success_iff (p : Params) (a : Byte) :
    ackReason p a = .success ↔ a = p.ackSuccess := by
  unfold ackReason
  split
  · simp [*]
  · simp only [*, iff_false]
    repeat' split
    all_goals simp

/-- A popped ACK completes the exchange that awaits it or is discarded (40_protocol_engine R138,
R147). -/
theorem onAck_cases (reg ask : Byte) (value : Word) (s : State) :
    (s.phase = .waitAck ∧ reg = s.latch.reg ∧ s.onAck reg ask value = s.ackComplete ask value) ∨
    (¬ (s.phase = .waitAck ∧ reg = s.latch.reg) ∧ s.onAck reg ask value = s) := by
  by_cases h : s.phase = .waitAck ∧ reg = s.latch.reg
  · exact .inl ⟨h.1, h.2, by rw [State.onAck, if_pos h]⟩
  · exact .inr ⟨h, by rw [State.onAck, if_neg h]⟩

/-- A popped telemetry frame completes the wait for its kind, is decoded in DRAIN, or is discarded
(40_protocol_engine R143 to R147). -/
theorem onTelemetry_cases (c : Telemetry) (s : State) :
    (s.phase = .waitTlm ∧ s.params.ridOf (telemetryKind c) = s.latch.reg ∧
      s.onTelemetry c = (s.store c).complete (.ok 0)) ∨
    (s.phase = .drain ∧ s.onTelemetry c = { s.store c with pollHit := true }) ∨
    (s.phase ≠ .drain ∧
      ¬ (s.phase = .waitTlm ∧ s.params.ridOf (telemetryKind c) = s.latch.reg) ∧
      s.onTelemetry c = s) := by
  unfold State.onTelemetry
  cases hp : s.phase
  case waitTlm =>
    by_cases h : s.params.ridOf (telemetryKind c) = s.latch.reg <;> simp [h]
  all_goals simp

/-- A frame with eight bytes is its payload under its identifier. -/
theorem payload_eq_some_iff (f : Frame) (d : Payload) : f.payload = some d ↔ f = d.frame f.id := by
  obtain ⟨id, data, len⟩ := f
  constructor
  · intro h
    simp only [Frame.payload] at h
    split at h
    · obtain rfl := Option.some.inj h
      rfl
    · simp at h
  · intro h
    rw [h]
    rfl

/-- Everything the part of Classify that looks at the payload can answer (30_encoding R100). -/
theorem classifyPayload_cases (p : Params) (d : Payload) :
    ((d.d0 = 0xCC ∧ d.d3 = 0xDD) ∧ classifyPayload p d = .ack d.d1 d.d2 d.le32) ∨
    (¬ (d.d0 = 0xCC ∧ d.d3 = 0xDD) ∧ ∃ k, d.d0 = p.ridOf k ∧
      classifyPayload p d = .telemetry k d) ∨
    (¬ (d.d0 = 0xCC ∧ d.d3 = 0xDD) ∧ (∀ k, d.d0 ≠ p.ridOf k) ∧ classifyPayload p d = .other) := by
  unfold classifyPayload
  split
  case isTrue ha => exact .inl ⟨ha, rfl⟩
  case isFalse ha =>
    refine .inr ?_
    split
    case isTrue h => exact .inl ⟨ha, .accel, h, rfl⟩
    split
    case isTrue h => exact .inl ⟨ha, .gyro, h, rfl⟩
    split
    case isTrue h => exact .inl ⟨ha, .euler, h, rfl⟩
    split
    case isTrue h => exact .inl ⟨ha, .quat, h, rfl⟩
    exact .inr ⟨ha, fun k => by cases k <;> assumption, rfl⟩

/-- Everything Classify can answer (30_encoding R100): the class by the identifier, the length and the
payload. -/
theorem classify_cases (p : Params) (m : Ident) (f : Frame) :
    (f.id ≠ m ∧ classify p m f = .foreign) ∨
    (f.id = m ∧ f.payload = none ∧ classify p m f = .short) ∨
    ∃ d : Payload, f = d.frame m ∧ classify p m f = classifyPayload p d := by
  by_cases hm : f.id = m
  case neg => exact .inl ⟨hm, if_pos hm⟩
  subst hm
  cases hf : f.payload with
  | none => exact .inr (.inl ⟨rfl, rfl, by simp [classify, hf]⟩)
  | some d => exact .inr (.inr ⟨d, (payload_eq_some_iff f d).mp hf, by simp [classify, hf]⟩)

/-- A frame from the master identifier is classified by its payload. -/
theorem classify_frame (p : Params) (m : Ident) (d : Payload) :
    classify p m (d.frame m) = classifyPayload p d := by
  have h : (d.frame m).payload = some d := (payload_eq_some_iff _ _).mpr rfl
  rw [classify, h]
  exact if_neg fun hn => hn rfl

/-- The register id of the codes decoded from a payload of kind `k`. -/
@[simp] theorem telemetryKind_decodeTelemetry (k : Kind) (d : Payload) :
    telemetryKind (decodeTelemetry k d) = k := by
  cases k <;> rfl

/-- What the write of Decode(k, D) does: the group of kind `k` and nothing else (41_telemetry_codec
R184). -/
theorem store_decodeTelemetry (k : Kind) (d : Payload) (s : State) :
    s.store (decodeTelemetry k d) = s.withGroup k d := by
  cases k <;> rfl

/-- Which handler a popped frame reaches, by its class (40_protocol_engine R137, R147). -/
theorem consume_cases (r : Received) (s : State) :
    (∃ reg ask value, r = .ack reg ask value ∧ s.consume r = s.onAck reg ask value) ∨
    (∃ k d, r = .telemetry k d ∧ s.consume r = s.onTelemetry (decodeTelemetry k d)) ∨
    ((r = .foreign ∨ r = .short ∨ r = .other) ∧ s.consume r = s) := by
  cases r <;> simp [State.consume]

/-- Everything a wait step can do (40_protocol_engine R136, R137). -/
theorem waitStep_cases (s : State) :
    (s.timedOut = true ∧ s.waitStep = s.complete .timeout) ∨
    (s.timedOut = false ∧ s.rxQueue = [] ∧ s.waitStep = s) ∨
    (s.timedOut = false ∧ ∃ f q, s.rxQueue = f :: q ∧
      s.waitStep = State.consume (classify s.params s.masterId f) { s with rxQueue := q }) := by
  cases h : s.timedOut
  · cases hq : s.rxQueue <;> simp [State.waitStep, h, hq]
  · simp [State.waitStep, h]

/-- Everything a drain step can do (40_protocol_engine R145). -/
theorem drainStep_cases (s : State) :
    (s.rxQueue = [] ∧ s.drainStep = s.complete (.ok (if s.pollHit then 1 else 0))) ∨
    (∃ f q, s.rxQueue = f :: q ∧
      s.drainStep = State.consume (classify s.params s.masterId f) { s with rxQueue := q }) := by
  cases hq : s.rxQueue <;> simp [State.drainStep, hq]

/-- Everything the engine's own step can do, by phase (40_protocol_engine R148). -/
theorem engineStep_cases (s : State) :
    (s.phase = .idle ∧ s.engineStep = s) ∨
    (s.phase = .tx ∧ s.engineStep = s.sendCommand s.latch.reg s.latch.mode s.latch.value) ∨
    ((s.phase = .waitAck ∨ s.phase = .waitTlm) ∧ s.timedOut = true ∧
      s.engineStep = s.complete .timeout) ∨
    ((s.phase = .waitAck ∨ s.phase = .waitTlm) ∧ s.timedOut = false ∧ s.rxQueue = [] ∧
      s.engineStep = s) ∨
    (((s.phase = .waitAck ∨ s.phase = .waitTlm) ∧ s.timedOut = false ∨ s.phase = .drain) ∧
      ∃ f q, s.rxQueue = f :: q ∧
        s.engineStep = State.consume (classify s.params s.masterId f) { s with rxQueue := q }) ∨
    (s.phase = .drain ∧ s.rxQueue = [] ∧
      s.engineStep = s.complete (.ok (if s.pollHit then 1 else 0))) := by
  cases hp : s.phase
  case idle => simp [State.engineStep, hp]
  case tx => simp [State.engineStep, State.transmitStep, hp]
  case waitAck =>
    rcases waitStep_cases s with ⟨h, e⟩ | ⟨h, hq, e⟩ | ⟨h, f, q, hq, e⟩
    · simp [State.engineStep, hp, e, h]
    · simp [State.engineStep, hp, e, h, hq]
    · simp [State.engineStep, hp, e, h, hq]
  case waitTlm =>
    rcases waitStep_cases s with ⟨h, e⟩ | ⟨h, hq, e⟩ | ⟨h, f, q, hq, e⟩
    · simp [State.engineStep, hp, e, h]
    · simp [State.engineStep, hp, e, h, hq]
    · simp [State.engineStep, hp, e, h, hq]
  case drain =>
    rcases drainStep_cases s with ⟨hq, e⟩ | ⟨f, q, hq, e⟩ <;>
      simp [State.engineStep, hp, e, hq]

/-- Everything a host operation can answer (40_protocol_engine R131). -/
theorem hostOp_cases (opc : BitVec 6) (tmo : Word) (prim : Primitive) (accepted : Bool)
    (s : State) :
    (s.phase = .idle ∧ accepted = true ∧
      hostOp opc tmo prim accepted s = .next (s.issue opc tmo prim)) ∨
    (s.phase = .idle ∧ accepted = false ∧ hostOp opc tmo prim accepted s = .next s.refuse) ∨
    (s.phase ≠ .idle ∧ s.latch.holds opc tmo prim = true ∧
      hostOp opc tmo prim accepted s = .next s.engineStep) ∨
    (s.phase ≠ .idle ∧ s.latch.holds opc tmo prim = false ∧
      hostOp opc tmo prim accepted s = .refused .portNotReady) := by
  cases hp : s.phase <;> cases accepted <;> cases hl : s.latch.holds opc tmo prim <;>
    simp [hostOp, hp, hl]

/-- A cache read delivers the code of a written group, and a free code otherwise (10_state R23,
R25). -/
theorem readCache_cases (r : CacheReg) (s : State) :
    (∃ c, s.code r = some c ∧ s.readCache r = { s with cacheData := some c }) ∨
    (s.code r = none ∧
      s.readCache r =
        { s with cacheData := some (freeCodeOf r s.draws), draws := s.draws + 1 }) := by
  cases h : s.code r <;> simp [State.readCache, h]

/-- Everything a received frame as an instruction can do (log entry 10): in IDLE and TX it stays
queued, past the deadline of a wait it stays queued and the wait completes TIMEOUT, otherwise it acts. -/
theorem receiveFirst_cases (d : Payload) (act : State → State) (s : State) :
    ((s.phase = .idle ∨ s.phase = .tx) ∧
      s.receiveFirst d act = { s with rxQueue := d.frame s.masterId :: s.rxQueue }) ∨
    ((s.phase = .waitAck ∨ s.phase = .waitTlm) ∧ s.timedOut = true ∧
      s.receiveFirst d act =
        State.complete .timeout { s with rxQueue := d.frame s.masterId :: s.rxQueue }) ∨
    (((s.phase = .waitAck ∨ s.phase = .waitTlm) ∧ s.timedOut = false ∨ s.phase = .drain) ∧
      s.receiveFirst d act = act s) := by
  cases hp : s.phase <;> cases ht : s.timedOut <;> simp [State.receiveFirst, hp, ht]

/-- What a host operation's meaning is an instance of, with its row of 30_encoding R104. -/
theorem exec_operation {i : Instr} {s : State} {opc : BitVec 6} {tmo : Word} {prim : Primitive}
    (h : operation s.params i = some (opc, tmo, prim)) :
    exec i s = hostOp opc tmo prim (wellFormed s.params i) s := by
  cases i <;> simp only [operation, Option.some.injEq, Prod.mk.injEq, reduceCtorEq] at h <;>
    obtain ⟨rfl, rfl, rfl⟩ := h <;> rfl

/-- Which instruction a command at the host port decodes to: a host operation with the command's
opcode and timeout. -/
theorem decodeHost_operation {c : HostCmd} {i : Instr} (p : Params) (h : decodeHost c = .ok i) :
    ∃ prim, operation p i = some (c.opc, c.tmo, prim) := by
  obtain ⟨opc, arg, tmo⟩ := c
  unfold decodeHost at h
  split at h <;> simp only [Except.ok.injEq, reduceCtorEq] at h
  all_goals
    subst h
    rename_i hn
    have e : opc = BitVec.ofNat 6 opc.toNat := by simp
    rw [hn] at e
    subst e
    exact ⟨_, rfl⟩

/-- Which instruction an address at the cache port decodes to, and its meaning. -/
theorem decodeCache_read {a : BitVec 4} {i : Instr} (h : decodeCache a = .ok i) (s : State) :
    ∃ r, (i, r) ∈ cacheReads ∧ exec i s = .next (s.readCache r) := by
  unfold decodeCache at h
  split at h <;> simp only [Except.ok.injEq, reduceCtorEq] at h <;> subst h
  all_goals
    refine ⟨_, ?_, rfl⟩
    simp [cacheReads]

/-- Everything a step can do (00_scope R11): the host reads the cache or its address is refused; an
idle engine issues, refuses or is left alone; a busy engine takes its own step. -/
theorem step_cases (s : State) :
    (∃ a i r, s.nextTurn.host = .readCache a ∧ decodeCache a = .ok i ∧ (i, r) ∈ cacheReads ∧
      step s = .next (s.afterTurn.readCache r)) ∨
    (∃ a, s.nextTurn.host = .readCache a ∧ 14 ≤ a.toNat ∧
      step s = .refused (.reservedCacheAddress a)) ∨
    (∃ c i opc tmo prim, s.nextTurn.host = .command c ∧ s.phase = .idle ∧ decodeHost c = .ok i ∧
      operation s.params i = some (opc, tmo, prim) ∧ wellFormed s.params i = true ∧
      step s = .next (s.afterTurn.issue opc tmo prim)) ∨
    (∃ c, s.nextTurn.host = .command c ∧ s.phase = .idle ∧
      (∀ i, decodeHost c = .ok i → wellFormed s.params i = false) ∧
      step s = .next s.afterTurn.refuse) ∨
    ((s.nextTurn.host = .wait ∨ s.phase ≠ .idle) ∧ (∀ a, s.nextTurn.host ≠ .readCache a) ∧
      step s = .next s.afterTurn.engineStep) := by
  cases hh : s.nextTurn.host with
  | wait => simp [step, hh]
  | readCache a =>
    cases hd : decodeCache a with
    | ok i =>
      obtain ⟨r, hm, hr⟩ := decodeCache_read hd s.afterTurn
      exact .inl ⟨a, i, r, rfl, hd, hm, by simp [step, hh, decode, hd, hr]⟩
    | error e =>
      refine .inr (.inl ⟨a, rfl, ?_, by simp [step, hh, decode, hd]⟩)
      by_contra hlt
      have hall : ∀ b : BitVec 4, b.toNat < 14 → (decodeCache b).toOption ≠ none := by decide
      exact hall a (by omega) (by rw [hd]; rfl)
  | command c =>
    cases hp : s.phase with
    | idle =>
      cases hd : decodeHost c with
      | error e =>
        exact .inr (.inr (.inr (.inl ⟨c, rfl, rfl, by simp [hd], by
          simp [step, hh, hp, decode, hd]⟩)))
      | ok i =>
        obtain ⟨prim, ho⟩ := decodeHost_operation s.params hd
        have he : step s = exec i s.afterTurn := by simp [step, hh, hp, decode, hd]
        rw [exec_operation (s := s.afterTurn) (by simpa using ho)] at he
        rcases hostOp_cases c.opc c.tmo prim (wellFormed s.afterTurn.params i) s.afterTurn with
          ⟨-, hw, e⟩ | ⟨-, hw, e⟩ | ⟨hn, -⟩ | ⟨hn, -⟩
        · exact .inr (.inr (.inl ⟨c, i, _, _, prim, rfl, rfl, hd, ho, by simpa using hw, by
            rw [he, e]⟩))
        · refine .inr (.inr (.inr (.inl ⟨c, rfl, rfl, fun j hj => ?_, by rw [he, e]⟩)))
          obtain rfl := Except.ok.inj (hd.symm.trans hj)
          simpa using hw
        · simp [hp] at hn
        · simp [hp] at hn
    | tx => simp [step, hh, hp]
    | waitAck => simp [step, hh, hp]
    | waitTlm => simp [step, hh, hp]
    | drain => simp [step, hh, hp]

end Sys2Proof.Machine
end

