-- ==== Sys2Proof/Laws/PerInstr.lean ====
section
/-! SUPPORT. Statements for every instruction, one lemma per constructor. -/

namespace Sys2Proof.Laws

/-- The table of operations and the encoder agree on an instruction: a host operation is encoded as a
host command with the opcode and the timeout of its row, and nothing else is encoded as a host command
(30_encoding R104). -/
def OpcodeAgrees.Statement (i : Instr) : Prop :=
  ∀ p : Params,
    match Machine.operation p i, encode p i with
    | some (opc, tmo, _), .hostCommand c => c.opc = opc ∧ c.tmo = tmo
    | none, .cacheAddress _ => True
    | none, .sendPayload _ => True
    | none, .receivePayload _ => True
    | some _, .cacheAddress _ => False
    | some _, .sendPayload _ => False
    | some _, .receivePayload _ => False
    | none, .hostCommand _ => False

theorem OpcodeAgrees.poll (tmo : Word) : OpcodeAgrees.Statement (.poll tmo) :=
  fun _ => ⟨rfl, rfl⟩

theorem OpcodeAgrees.requestAccel (tmo : Word) : OpcodeAgrees.Statement (.requestAccel tmo) :=
  fun _ => ⟨rfl, rfl⟩

theorem OpcodeAgrees.requestGyro (tmo : Word) : OpcodeAgrees.Statement (.requestGyro tmo) :=
  fun _ => ⟨rfl, rfl⟩

theorem OpcodeAgrees.requestEuler (tmo : Word) : OpcodeAgrees.Statement (.requestEuler tmo) :=
  fun _ => ⟨rfl, rfl⟩

theorem OpcodeAgrees.requestQuat (tmo : Word) : OpcodeAgrees.Statement (.requestQuat tmo) :=
  fun _ => ⟨rfl, rfl⟩

theorem OpcodeAgrees.readAccel (tmo : Word) : OpcodeAgrees.Statement (.readAccel tmo) :=
  fun _ => ⟨rfl, rfl⟩

theorem OpcodeAgrees.readGyro (tmo : Word) : OpcodeAgrees.Statement (.readGyro tmo) :=
  fun _ => ⟨rfl, rfl⟩

theorem OpcodeAgrees.readEuler (tmo : Word) : OpcodeAgrees.Statement (.readEuler tmo) :=
  fun _ => ⟨rfl, rfl⟩

theorem OpcodeAgrees.readQuat (tmo : Word) : OpcodeAgrees.Statement (.readQuat tmo) :=
  fun _ => ⟨rfl, rfl⟩

theorem OpcodeAgrees.getComPort (tmo : Word) : OpcodeAgrees.Statement (.getComPort tmo) :=
  fun _ => ⟨rfl, rfl⟩

theorem OpcodeAgrees.setComPort (arg tmo : Word) : OpcodeAgrees.Statement (.setComPort arg tmo) :=
  fun _ => ⟨rfl, rfl⟩

theorem OpcodeAgrees.getCanBaud (tmo : Word) : OpcodeAgrees.Statement (.getCanBaud tmo) :=
  fun _ => ⟨rfl, rfl⟩

theorem OpcodeAgrees.setCanBaud (arg tmo : Word) : OpcodeAgrees.Statement (.setCanBaud arg tmo) :=
  fun _ => ⟨rfl, rfl⟩

theorem OpcodeAgrees.getMasterId (tmo : Word) : OpcodeAgrees.Statement (.getMasterId tmo) :=
  fun _ => ⟨rfl, rfl⟩

theorem OpcodeAgrees.setMasterId (arg tmo : Word) : OpcodeAgrees.Statement (.setMasterId arg tmo) :=
  fun _ => ⟨rfl, rfl⟩

theorem OpcodeAgrees.getSlaveId (tmo : Word) : OpcodeAgrees.Statement (.getSlaveId tmo) :=
  fun _ => ⟨rfl, rfl⟩

theorem OpcodeAgrees.setSlaveId (arg tmo : Word) : OpcodeAgrees.Statement (.setSlaveId arg tmo) :=
  fun _ => ⟨rfl, rfl⟩

theorem OpcodeAgrees.getActiveMode (tmo : Word) : OpcodeAgrees.Statement (.getActiveMode tmo) :=
  fun _ => ⟨rfl, rfl⟩

theorem OpcodeAgrees.setActiveMode (arg tmo : Word) : OpcodeAgrees.Statement (.setActiveMode arg tmo) :=
  fun _ => ⟨rfl, rfl⟩

theorem OpcodeAgrees.getActiveDelay (tmo : Word) : OpcodeAgrees.Statement (.getActiveDelay tmo) :=
  fun _ => ⟨rfl, rfl⟩

theorem OpcodeAgrees.setActiveDelay (arg tmo : Word) : OpcodeAgrees.Statement (.setActiveDelay arg tmo) :=
  fun _ => ⟨rfl, rfl⟩

theorem OpcodeAgrees.getOutputSelection (tmo : Word) : OpcodeAgrees.Statement (.getOutputSelection tmo) :=
  fun _ => ⟨rfl, rfl⟩

theorem OpcodeAgrees.calAccel (tmo : Word) : OpcodeAgrees.Statement (.calAccel tmo) :=
  fun _ => ⟨rfl, rfl⟩

theorem OpcodeAgrees.calGyro (tmo : Word) : OpcodeAgrees.Statement (.calGyro tmo) :=
  fun _ => ⟨rfl, rfl⟩

theorem OpcodeAgrees.calMag (tmo : Word) : OpcodeAgrees.Statement (.calMag tmo) :=
  fun _ => ⟨rfl, rfl⟩

theorem OpcodeAgrees.setZero (tmo : Word) : OpcodeAgrees.Statement (.setZero tmo) :=
  fun _ => ⟨rfl, rfl⟩

theorem OpcodeAgrees.reboot (tmo : Word) : OpcodeAgrees.Statement (.reboot tmo) :=
  fun _ => ⟨rfl, rfl⟩

theorem OpcodeAgrees.saveParameters (tmo : Word) : OpcodeAgrees.Statement (.saveParameters tmo) :=
  fun _ => ⟨rfl, rfl⟩

theorem OpcodeAgrees.getTemperature : OpcodeAgrees.Statement .getTemperature :=
  fun _ => trivial

theorem OpcodeAgrees.getAccelX : OpcodeAgrees.Statement .getAccelX :=
  fun _ => trivial

theorem OpcodeAgrees.getAccelY : OpcodeAgrees.Statement .getAccelY :=
  fun _ => trivial

theorem OpcodeAgrees.getAccelZ : OpcodeAgrees.Statement .getAccelZ :=
  fun _ => trivial

theorem OpcodeAgrees.getGyroX : OpcodeAgrees.Statement .getGyroX :=
  fun _ => trivial

theorem OpcodeAgrees.getGyroY : OpcodeAgrees.Statement .getGyroY :=
  fun _ => trivial

theorem OpcodeAgrees.getGyroZ : OpcodeAgrees.Statement .getGyroZ :=
  fun _ => trivial

theorem OpcodeAgrees.getRoll : OpcodeAgrees.Statement .getRoll :=
  fun _ => trivial

theorem OpcodeAgrees.getPitch : OpcodeAgrees.Statement .getPitch :=
  fun _ => trivial

theorem OpcodeAgrees.getYaw : OpcodeAgrees.Statement .getYaw :=
  fun _ => trivial

theorem OpcodeAgrees.getQuatW : OpcodeAgrees.Statement .getQuatW :=
  fun _ => trivial

theorem OpcodeAgrees.getQuatX : OpcodeAgrees.Statement .getQuatX :=
  fun _ => trivial

theorem OpcodeAgrees.getQuatY : OpcodeAgrees.Statement .getQuatY :=
  fun _ => trivial

theorem OpcodeAgrees.getQuatZ : OpcodeAgrees.Statement .getQuatZ :=
  fun _ => trivial

theorem OpcodeAgrees.cmdRead (reg : Byte) : OpcodeAgrees.Statement (.cmdRead reg) :=
  fun _ => trivial

theorem OpcodeAgrees.cmdWrite (reg : Byte) (value : Word) : OpcodeAgrees.Statement (.cmdWrite reg value) :=
  fun _ => trivial

theorem OpcodeAgrees.ack (reg ask : Byte) (value : Word) : OpcodeAgrees.Statement (.ack reg ask value) :=
  fun _ => trivial

theorem OpcodeAgrees.tlmAccel (temp : Byte) (x y z : BitVec 16) : OpcodeAgrees.Statement (.tlmAccel temp x y z) :=
  fun _ => trivial

theorem OpcodeAgrees.tlmGyro (unused : Byte) (x y z : BitVec 16) : OpcodeAgrees.Statement (.tlmGyro unused x y z) :=
  fun _ => trivial

theorem OpcodeAgrees.tlmEuler (unused : Byte) (pitch yaw roll : BitVec 16) : OpcodeAgrees.Statement (.tlmEuler unused pitch yaw roll) :=
  fun _ => trivial

theorem OpcodeAgrees.tlmQuat (w x y z : BitVec 14) : OpcodeAgrees.Statement (.tlmQuat w x y z) :=
  fun _ => trivial

end Sys2Proof.Laws
end

