-- ==== Sys2Proof/Tests/Slice0.lean ====
section
/-! SUPPORT. Tests: decoding of a word of every constructor, ill-formed terms, single steps on small
states, and for every statement with hypotheses a state and operands that meet them. Expected results
are the numbers of 95_test_vectors (the vector is named in each comment) or of the rule named. All run
under the bindings GK and TB (30_encoding R102, R103). -/

namespace Sys2Proof.Tests

open Sys2Proof Sys2Proof.Machine

/-! ## Decoding -/

/-- A host command word with TMO 30. -/
def hostWordOf (opc : BitVec 6) (arg : Word) : PortWord :=
  .hostCommand ⟨opc, arg, 30⟩

/-- What the decoder reads under the bindings GK and TB. -/
def reads (w : PortWord) : Except DecodeError Instr :=
  decode exampleParams w

-- 30_encoding R104, one row each
theorem test_decode_poll : reads (hostWordOf 0x00 7) = .ok (.poll 30) := by decide
theorem test_decode_requestAccel : reads (hostWordOf 0x01 7) = .ok (.requestAccel 30) := by decide
theorem test_decode_requestGyro : reads (hostWordOf 0x02 7) = .ok (.requestGyro 30) := by decide
theorem test_decode_requestEuler : reads (hostWordOf 0x03 7) = .ok (.requestEuler 30) := by decide
theorem test_decode_requestQuat : reads (hostWordOf 0x04 7) = .ok (.requestQuat 30) := by decide
theorem test_decode_readAccel : reads (hostWordOf 0x05 7) = .ok (.readAccel 30) := by decide
theorem test_decode_readGyro : reads (hostWordOf 0x06 7) = .ok (.readGyro 30) := by decide
theorem test_decode_readEuler : reads (hostWordOf 0x07 7) = .ok (.readEuler 30) := by decide
theorem test_decode_readQuat : reads (hostWordOf 0x08 7) = .ok (.readQuat 30) := by decide
theorem test_decode_getComPort : reads (hostWordOf 0x10 7) = .ok (.getComPort 30) := by decide
theorem test_decode_setComPort : reads (hostWordOf 0x11 2) = .ok (.setComPort 2 30) := by decide
theorem test_decode_getCanBaud : reads (hostWordOf 0x12 7) = .ok (.getCanBaud 30) := by decide
theorem test_decode_setCanBaud : reads (hostWordOf 0x13 1) = .ok (.setCanBaud 1 30) := by decide
theorem test_decode_getMasterId : reads (hostWordOf 0x14 7) = .ok (.getMasterId 30) := by decide
theorem test_decode_setMasterId :
    reads (hostWordOf 0x15 0x12) = .ok (.setMasterId 0x12 30) := by decide
theorem test_decode_getSlaveId : reads (hostWordOf 0x16 7) = .ok (.getSlaveId 30) := by decide
theorem test_decode_setSlaveId : reads (hostWordOf 0x17 2) = .ok (.setSlaveId 2 30) := by decide
theorem test_decode_getActiveMode : reads (hostWordOf 0x18 7) = .ok (.getActiveMode 30) := by decide
theorem test_decode_setActiveMode :
    reads (hostWordOf 0x19 1) = .ok (.setActiveMode 1 30) := by decide
theorem test_decode_getActiveDelay :
    reads (hostWordOf 0x1A 7) = .ok (.getActiveDelay 30) := by decide
theorem test_decode_setActiveDelay :
    reads (hostWordOf 0x1B 500) = .ok (.setActiveDelay 500 30) := by decide
theorem test_decode_getOutputSelection :
    reads (hostWordOf 0x1C 7) = .ok (.getOutputSelection 30) := by decide
theorem test_decode_calAccel : reads (hostWordOf 0x20 7) = .ok (.calAccel 30) := by decide
theorem test_decode_calGyro : reads (hostWordOf 0x21 7) = .ok (.calGyro 30) := by decide
theorem test_decode_calMag : reads (hostWordOf 0x22 7) = .ok (.calMag 30) := by decide
theorem test_decode_setZero : reads (hostWordOf 0x23 7) = .ok (.setZero 30) := by decide
theorem test_decode_reboot : reads (hostWordOf 0x24 7) = .ok (.reboot 30) := by decide
theorem test_decode_saveParameters :
    reads (hostWordOf 0x25 7) = .ok (.saveParameters 30) := by decide

-- 10_state R25, one address each
theorem test_decode_getTemperature : reads (.cacheAddress 0b0000) = .ok .getTemperature := by decide
theorem test_decode_getAccelX : reads (.cacheAddress 0b0001) = .ok .getAccelX := by decide
theorem test_decode_getAccelY : reads (.cacheAddress 0b0010) = .ok .getAccelY := by decide
theorem test_decode_getAccelZ : reads (.cacheAddress 0b0011) = .ok .getAccelZ := by decide
theorem test_decode_getGyroX : reads (.cacheAddress 0b0100) = .ok .getGyroX := by decide
theorem test_decode_getGyroY : reads (.cacheAddress 0b0101) = .ok .getGyroY := by decide
theorem test_decode_getGyroZ : reads (.cacheAddress 0b0110) = .ok .getGyroZ := by decide
theorem test_decode_getRoll : reads (.cacheAddress 0b0111) = .ok .getRoll := by decide
theorem test_decode_getPitch : reads (.cacheAddress 0b1000) = .ok .getPitch := by decide
theorem test_decode_getYaw : reads (.cacheAddress 0b1001) = .ok .getYaw := by decide
theorem test_decode_getQuatW : reads (.cacheAddress 0b1010) = .ok .getQuatW := by decide
theorem test_decode_getQuatX : reads (.cacheAddress 0b1011) = .ok .getQuatX := by decide
theorem test_decode_getQuatY : reads (.cacheAddress 0b1100) = .ok .getQuatY := by decide
theorem test_decode_getQuatZ : reads (.cacheAddress 0b1101) = .ok .getQuatZ := by decide

-- B1, B5, K2, A4, Y1, E3, Q6
theorem test_decode_cmdRead :
    reads (.sendPayload ⟨0xCC, 0x0C, 0x00, 0xDD, 0x00, 0x00, 0x00, 0x00⟩) =
      .ok (.cmdRead 0x0C) := by decide
theorem test_decode_cmdWrite :
    reads (.sendPayload ⟨0xCC, 0x0A, 0x01, 0xDD, 0x78, 0x56, 0x34, 0x12⟩) =
      .ok (.cmdWrite 0x0A 0x12345678) := by decide
theorem test_decode_ack :
    reads (.receivePayload ⟨0xCC, 0x0C, 0x02, 0xDD, 0xEF, 0xBE, 0xAD, 0xDE⟩) =
      .ok (.ack 0x0C 0x02 0xDEADBEEF) := by decide
theorem test_decode_tlmAccel :
    reads (.receivePayload ⟨0x01, 0x80, 0x80, 0x00, 0x7F, 0xFF, 0x00, 0x01⟩) =
      .ok (.tlmAccel 0x80 0x8000 0x7FFF 0x0001) := by decide
theorem test_decode_tlmGyro :
    reads (.receivePayload ⟨0x02, 0xAA, 0x12, 0x34, 0x56, 0x78, 0x9A, 0xBC⟩) =
      .ok (.tlmGyro 0xAA 0x1234 0x5678 0x9ABC) := by decide
theorem test_decode_tlmEuler :
    reads (.receivePayload ⟨0x03, 0x55, 0x80, 0x00, 0x12, 0x34, 0xFF, 0xFF⟩) =
      .ok (.tlmEuler 0x55 0x8000 0x1234 0xFFFF) := by decide
theorem test_decode_tlmQuat :
    reads (.receivePayload ⟨0x04, 0x48, 0xD2, 0x34, 0x5D, 0x15, 0x85, 0x67⟩) =
      .ok (.tlmQuat 0x1234 0x2345 0x3456 0x0567) := by decide

-- Q1 to Q4, Q7, Q8, Q11: the lanes of 41_telemetry_codec R188
theorem test_quat_lanes :
    quatCodes ⟨4, 0xFF, 0xFC, 0, 0, 0, 0, 0⟩ = ⟨0x3FFF, 0, 0, 0⟩ ∧
    quatCodes ⟨4, 0, 0x03, 0xFF, 0xF0, 0, 0, 0⟩ = ⟨0, 0x3FFF, 0, 0⟩ ∧
    quatCodes ⟨4, 0, 0, 0, 0x0F, 0xFF, 0xC0, 0⟩ = ⟨0, 0, 0x3FFF, 0⟩ ∧
    quatCodes ⟨4, 0, 0, 0, 0, 0, 0x3F, 0xFF⟩ = ⟨0, 0, 0, 0x3FFF⟩ ∧
    quatCodes ⟨4, 0x12, 0x34, 0x56, 0x78, 0x9A, 0xBC, 0xDE⟩ = ⟨0x048D, 0x0567, 0x226A, 0x3CDE⟩ ∧
    quatCodes ⟨4, 1, 2, 3, 4, 5, 6, 7⟩ = ⟨0x0040, 0x2030, 0x1014, 0x0607⟩ ∧
    quatCodes ⟨4, 0x7F, 0xFE, 0, 0x07, 0xFF, 0xE0, 0⟩ = ⟨0x1FFF, 0x2000, 0x1FFF, 0x2000⟩ := by
  decide

-- the table word of SET_SLAVE_ID, CMD.READ and TLM.QUAT (spec/opcode_table.json)
theorem test_table_words :
    decodeTableWord 8 0x17 = some (.setSlaveId 0 0) ∧
    decodeTableWord 64 0xCC0C00DD00000000 = some (.cmdRead 0x0C) ∧
    decodeTableWord 64 0x0448D2345D158567 = some (.tlmQuat 0x1234 0x2345 0x3456 0x0567) ∧
    decodeTableWord 8 0x3F = none := by decide

/-! ## Well-formedness: an ill-formed term for each check (G4v, G11v, G17v, G20v; 44_maintenance_ops
R267, R268) -/

theorem test_illFormed_setComPort : wellFormed exampleParams (.setComPort 9 30) = false := by decide
theorem test_illFormed_setCanBaud : wellFormed exampleParams (.setCanBaud 8 30) = false := by decide
theorem test_illFormed_setMasterId :
    wellFormed exampleParams (.setMasterId 0x800 30) = false := by decide
theorem test_illFormed_setSlaveId :
    wellFormed exampleParams (.setSlaveId 0x800 30) = false := by decide
theorem test_illFormed_setActiveMode :
    wellFormed exampleParams (.setActiveMode 2 30) = false := by decide
theorem test_illFormed_setActiveDelay :
    wellFormed exampleParams (.setActiveDelay 0 30) = false ∧
    wellFormed exampleParams (.setActiveDelay 1001 30) = false := by decide
theorem test_illFormed_cmdRead : wellFormed exampleParams (.cmdRead 0xFF) = false := by decide
theorem test_illFormed_cmdWrite :
    wellFormed exampleParams (.cmdWrite 0xFF 0) = false ∧
    wellFormed exampleParams (.cmdWrite 0x0F 0) = false ∧
    wellFormed exampleParams (.cmdWrite 0x01 0) = false := by decide

/-! ## Small states -/

/-- An idle engine with the identifiers of 95_test_vectors and an empty queue. -/
def idle : State where
  masterId := 0x011
  slaveId := 0x001
  accel := none
  gyro := none
  euler := none
  quat := none
  phase := .idle
  latch := ⟨0, .read, 0, 0, 0, 0⟩
  tStart := 0
  pollHit := false
  result := .none
  rxQueue := []
  time := 0
  txAnswer := 0
  sent := []
  script := [tick 0]
  turns := 0
  cacheData := none
  draws := 0
  params := exampleParams

/-- An engine in phase `ph` with a latched operation of TMO 30, `T_START` 1000 and clock 1005. -/
def busy (ph : Phase) (opc : BitVec 6) (kind : ReqKind) (reg mode : Byte) (value : Word) : State :=
  { idle with phase := ph, latch := ⟨opc, kind, reg, mode, value, 30⟩, tStart := 1000, time := 1005 }

/-- A getter of the CAN baud rate in phase `ph` (W1 to W11). -/
def getting (ph : Phase) : State :=
  busy ph 0x12 .read 0x0C 0 0

/-- A SET_SLAVE_ID 2 in phase `ph` (W17 to W19). -/
def settingSlave (ph : Phase) : State :=
  busy ph 0x17 .write 0x0D 1 2

/-- A SET_MASTER_ID 0x012 in phase `ph` (G8v). -/
def settingMaster (ph : Phase) : State :=
  busy ph 0x15 .write 0x0E 1 0x12

/-- A READ of the telemetry register `reg` in phase `ph` (W14 to W16). -/
def readingTelemetry (ph : Phase) (opc : BitVec 6) (reg : Byte) : State :=
  busy ph opc .readTlm reg 0 0

/-- A POLL that drains. -/
def polling : State :=
  busy .drain 0x00 .poll 0x55 0x66 0x77

/-- A state with a receive queue. -/
def withQueue (q : List Frame) (s : State) : State :=
  { s with rxQueue := q }

/-- A state with a coming turn. -/
def withTurn (t : Turn) (s : State) : State :=
  { s with script := [t] }

/-- A frame from the master identifier. -/
def fromMaster (d : Payload) : Frame :=
  d.frame 0x011

/-- A response to the exchange for `reg` with ack byte `ask` and data bytes 3, 0, 0, 0. -/
def response (reg ask : Byte) : Payload :=
  ⟨0xCC, reg, ask, 0xDD, 3, 0, 0, 0⟩

/-- An accelerometer payload (T5). -/
def accelPayload : Payload :=
  ⟨0x01, 0x19, 0x80, 0x00, 0x7F, 0xFF, 0xFF, 0xFF⟩

/-- A payload of a telemetry kind with register id `rid` (E4). -/
def telemetryPayload (rid : Byte) : Payload :=
  ⟨rid, 0x00, 0x12, 0x34, 0x56, 0x78, 0x9A, 0xBC⟩

/-- What a meaning or a step answers, seen through `f`. -/
def seen {α : Type} (f : State → α) : Answer → Option α
  | .next s => some (f s)
  | .fault _ => none
  | .refused _ => none

/-- PHASE, RESULT and the length of the queue. -/
def outcome (s : State) : Phase × OpResult × Nat :=
  (s.phase, s.result, s.rxQueue.length)

/-! ## Single steps -/

-- W1 and W2: elapsed 29 and 30
theorem test_wait_before_deadline :
    seen outcome (exec (.getCanBaud 30) { getting .waitAck with time := 1029 }) =
      some (.waitAck, .none, 0) := by decide
-- W3: the frame that is waiting stays queued
theorem test_timeout_keeps_frame :
    seen outcome (exec (.getCanBaud 30)
      (withQueue [fromMaster (response 0x0C 0)] { getting .waitAck with time := 1030 })) =
      some (.idle, .timeout, 1) := by decide
-- W5, W7
theorem test_getter_ok : seen outcome (exec (.getCanBaud 30)
    (withQueue [fromMaster (response 0x0C 0)] (getting .waitAck))) =
      some (.idle, .ok 3, 0) := by decide
theorem test_getter_unknown_nack : seen outcome (exec (.getCanBaud 30)
    (withQueue [fromMaster (response 0x0C 0x7F)] (getting .waitAck))) =
      some (.idle, .nack 0x7F, 0) := by decide
-- W8: telemetry is discarded in WAIT_ACK and the cache is unchanged
theorem test_wait_discards_telemetry :
    seen (fun s => (outcome s, s.accel)) (exec (.getCanBaud 30)
      (withQueue [fromMaster accelPayload] (getting .waitAck))) =
      some ((.waitAck, .none, 0), none) := by decide
-- W12, W13: the clock wraps
theorem test_wrap_before :
    seen State.phase (exec (.getCanBaud 30)
      { getting .waitAck with tStart := 0xFFFFFFF0, time := 0x10000000D }) =
      some .waitAck := by decide
theorem test_wrap_after :
    seen outcome (exec (.getMasterId 30)
      { busy .waitAck 0x14 .read 0x0E 0 0 with tStart := 0xFFFFFFF0, time := 0x10000000E }) =
      some (.idle, .timeout, 0) := by decide
-- W15
theorem test_readAccel_stores :
    seen (fun s => (outcome s, s.accel)) (exec (.readAccel 30)
      (withQueue [fromMaster accelPayload] (readingTelemetry .waitTlm 0x05 0x01))) =
      some ((.idle, .ok 0, 0), some ⟨0x19, 0x8000, 0x7FFF, 0xFFFF⟩) := by decide
-- W16, T8: an ACK never satisfies WAIT_TLM
theorem test_readQuat_ignores_ack :
    seen outcome (exec (.readQuat 30)
      (withQueue [fromMaster (response 0x04 1)] (readingTelemetry .waitTlm 0x08 0x04))) =
      some (.waitTlm, .none, 0) := by decide
-- W17 and W19: the value written, not the one in the response
theorem test_setSlaveId_writes_back :
    seen (fun s => (s.slaveId, s.result)) (exec (.setSlaveId 2 30)
      (withQueue [fromMaster ⟨0xCC, 0x0D, 0, 0xDD, 9, 0, 0, 0⟩] (settingSlave .waitAck))) =
      some (0x002, .ok 0) := by decide
-- W18
theorem test_setSlaveId_nack_keeps :
    seen (fun s => (s.slaveId, s.result)) (exec (.setSlaveId 2 30)
      (withQueue [fromMaster (response 0x0D 3)] (settingSlave .waitAck))) =
      some (0x001, .nack 3) := by decide
-- G8v, G9v
theorem test_setMasterId_writes_back :
    seen State.masterId (exec (.setMasterId 0x12 30)
      (withQueue [fromMaster (response 0x0E 0)] (settingMaster .waitAck))) =
      some 0x012 := by decide
theorem test_setMasterId_no_writeback :
    seen State.masterId (exec (.setMasterId 0x12 30)
      (withQueue [fromMaster (response 0x0E 0)]
        { settingMaster .waitAck with params := { exampleParams with mstWriteback := false } })) =
      some 0x011 := by decide
-- G4v
theorem test_setComPort_refused :
    seen (fun s => (outcome s, s.sent)) (exec (.setComPort 9 30) idle) =
      some ((.idle, .refused, 0), []) := by decide
-- G19v: what is sent
theorem test_setActiveDelay_sends :
    seen (fun s => s.sent.map Frame.data) (exec (.setActiveDelay 1000 30)
      (busy .tx 0x1B .write 0x0A 1 1000)) =
      some [[0xCC, 0x0A, 0x01, 0xDD, 0xE8, 0x03, 0x00, 0x00]] := by decide
-- T2, T3
theorem test_requestGyro_rejected :
    seen outcome (exec (.requestGyro 30)
      { busy .tx 0x02 .reqTlm 0x02 0 0 with txAnswer := -5 }) =
      some (.idle, .txFail, 0) := by decide
theorem test_requestEuler_any_success :
    seen outcome (exec (.requestEuler 30)
      { busy .tx 0x03 .reqTlm 0x03 0 0 with txAnswer := 7 }) =
      some (.idle, .ok 0, 0) := by decide
-- T9
theorem test_poll_empty : seen outcome (exec (.poll 30) polling) = some (.idle, .ok 0, 0) := by
  decide
-- T10: a short frame is discarded
theorem test_poll_short :
    seen (fun s => (outcome s, s.pollHit)) (exec (.poll 30)
      (withQueue [⟨0x011, [4, 0xFF, 0xFC, 0, 0, 0, 0], by decide⟩] polling)) =
      some ((.drain, .none, 0), false) := by decide
-- M3
theorem test_saveParameters_nack :
    seen outcome (exec (.saveParameters 30)
      (withQueue [fromMaster (response 0xFE 3)] (busy .waitAck 0x25 .write 0xFE 1 0))) =
      some (.idle, .nack 3, 0) := by decide
-- M1
theorem test_calAccel_issue :
    seen (fun s => (s.phase, s.latch)) (exec (.calAccel 30) idle) =
      some (.tx, ⟨0x20, .write, 0x06, 1, 0, 30⟩) := by decide
-- E4: the roll, the pitch and the yaw in the order of the cache port
theorem test_getRoll :
    seen State.cacheData (exec .getRoll { idle with euler := some ⟨0x1234, 0x5678, 0x9ABC⟩ }) =
      some (some 0x9ABC) := by decide
-- Z3
theorem test_getTemperature :
    seen State.cacheData (exec .getTemperature { idle with accel := some ⟨0x19, 0, 0, 0⟩ }) =
      some (some 0x0019) := by decide
-- G23v: a reserved OPC in a whole step
theorem test_step_reserved_opcode :
    seen outcome (step (withTurn ⟨0, 0, [], 0, .command ⟨0x09, 0, 30⟩⟩ idle)) =
      some (.idle, .refused, 0) := by decide
-- 40_protocol_engine R131: a command presented to a busy engine is not accepted
theorem test_step_busy_port :
    seen (fun s => (s.phase, s.latch.opc)) (step (withTurn ⟨0, 0, [], 0, .command ⟨0x00, 0, 30⟩⟩
      (getting .waitAck))) = some (.waitAck, 0x12) := by decide
-- 30_encoding R107: ack byte 0x7F is unknown (K3)
theorem test_ack_unknown : ackReason exampleParams 0x7F = .unknown 0x7F := by decide
-- the quantiser: 95_test_vectors 2.4, accelerometer at 0x8000
theorem test_quantiser :
    quantise 0x8000 (-accelMax) accelMax 16 = 392 / 109225 := by
  norm_num [quantise, accelMax]
-- 41_telemetry_codec R186, R187, R188: the examples of the other ranges
theorem test_decoded_values :
    decodedValue .gyrX 0x8000 = 872 / 1638375 ∧ decodedValue .eulPitch 0xC000 = 196614 / 4369 ∧
    decodedValue .eulRoll 0xFFFF = 180 ∧ decodedValue .eulYaw 0 = -180 ∧
    decodedValue .quatW 0x3FFF = 1 ∧ decodedValue .temp 0x19 = 25 := by
  simp only [decodedValue, rangeMax, quantise, codeWidth, gyroMax, pitchMax, rollMax, yawMax, quatMax,
    BitVec.reduceToNat]
  norm_num
-- 00_scope R6: a third frame at a queue of depth 2 (the two policies of 91_not_in_source N8)
theorem test_full_queue :
    let a := fromMaster accelPayload
    let b := fromMaster (response 0x0C 0)
    let c := fromMaster (telemetryPayload 0x04)
    enqueueAll ⟨some 2, .dropNewest⟩ [a] [b, c] = [a, b] ∧
    enqueueAll ⟨some 2, .dropOldest⟩ [a] [b, c] = [b, c] := by decide
-- 70_reset R326: another reader takes the response, and the wait goes on without it
theorem test_second_reader :
    seen outcome (step (withTurn ⟨0, 1, [], 0, .wait⟩
      (withQueue [fromMaster (response 0x0C 0), fromMaster (response 0x0D 0)] (getting .waitAck)))) =
      some (.waitAck, .none, 0) := by decide
-- withFetchWord places POLL and CMD.READ so that the next step runs them
theorem test_fetch_poll :
    seen State.phase (step (idle.withFetchWord 8 0x00)) = some .drain := by decide
theorem test_fetch_cmdRead :
    seen (fun s => s.sent.map Frame.data) (step (idle.withFetchWord 64 0xCC0C00DD00000000)) =
      some [[0xCC, 0x0C, 0x00, 0xDD, 0, 0, 0, 0]] := by decide
theorem test_fetch_tlmAccel :
    seen State.accel (step (idle.withFetchWord 64 0x011980007FFFFFFF)) =
      some (some ⟨0x19, 0x8000, 0x7FFF, 0xFFFF⟩) := by decide

/-! ## Witnesses: for each statement with hypotheses, a state and operands that meet all of them, with
one witness for each clause -/

/-- The command frame's turn: the host presents a command. -/
def presenting (opc : BitVec 6) (arg : Word) : State :=
  withTurn ⟨0, 0, [], 0, .command ⟨opc, arg, 30⟩⟩ idle

/-- The host reads cache address `a`. -/
def readingCache (a : BitVec 4) (s : State) : State :=
  withTurn ⟨0, 0, [], 0, .readCache a⟩ s

theorem example_wf : exampleParams.wf := by decide

theorem witness_StepRunsDecodedInstruction :
    ((presenting 0x12 0).nextTurn.host = .command ⟨0x12, 0, 30⟩ ∧
      (presenting 0x12 0).phase = .idle ∧
      decode (presenting 0x12 0).params (.hostCommand ⟨0x12, 0, 30⟩) = .ok (.getCanBaud 30)) ∧
    ((readingCache 13 (getting .tx)).nextTurn.host = .readCache 13 ∧
      decode (readingCache 13 (getting .tx)).params (.cacheAddress 13) = .ok .getQuatZ) ∧
    ((getting .waitAck).phase ≠ .idle ∧
      (∀ a, (getting .waitAck).nextTurn.host ≠ .readCache a) ∧
      (getting .waitAck).running (.getCanBaud 30) = true) := by decide

theorem witness_StepRunsWireFrames :
    (∀ ph ∈ [Phase.waitAck, .waitTlm, .drain],
      (∀ a, (withQueue [fromMaster accelPayload] (getting ph)).nextTurn.host ≠ .readCache a) ∧
      (getting ph).phase.receives = true ∧
      (withQueue [fromMaster accelPayload] (getting ph)).afterTurn.rxQueue =
        [accelPayload.frame 0x011] ∧
      decode exampleParams (.receivePayload accelPayload) =
        .ok (.tlmAccel 0x19 0x8000 0x7FFF 0xFFFF)) ∧
    ((getting .tx).phase = .tx ∧
      buildCommand (getting .tx).slaveId (getting .tx).latch.reg (getting .tx).latch.mode
        (getting .tx).latch.value =
        Payload.frame ⟨0xCC, 0x0C, 0, 0xDD, 0, 0, 0, 0⟩ (getting .tx).slaveId ∧
      decode exampleParams (.sendPayload ⟨0xCC, 0x0C, 0, 0xDD, 0, 0, 0, 0⟩) =
        .ok (.cmdRead 0x0C)) := by decide

theorem witness_DecodeEncodeRoundTrip : exampleParams.wf := example_wf

theorem witness_EncodeDecodeRoundTrip :
    decode exampleParams (.hostCommand ⟨0x25, 9, 30⟩) = .ok (.saveParameters 30) ∧
    decode exampleParams (.hostCommand ⟨0x11, 2, 30⟩) = .ok (.setComPort 2 30) ∧
    decode exampleParams (.cacheAddress 13) = .ok .getQuatZ := by decide

theorem witness_ReservedOpcodesAreRefused :
    ∀ opc ∈ [0x09#6, 0x0F#6, 0x1D#6, 0x1F#6, 0x26#6, 0x3F#6],
      (presenting opc 0).nextTurn.host = .command ⟨opc, 0, 30⟩ ∧ (presenting opc 0).phase = .idle ∧
      ¬ ∃ i, decodeHost ⟨opc, 0, 30⟩ = .ok i := by
  simp [presenting, withTurn, State.nextTurn, idle, decodeHost]

theorem witness_ReservedCacheAddressesAreRefused :
    (readingCache 14 idle).nextTurn.host = .readCache 14 ∧ 14 ≤ (14#4).toNat ∧
    (readingCache 15 polling).nextTurn.host = .readCache 15 ∧ 14 ≤ (15#4).toNat ∧
    (readingCache 13 idle).nextTurn.host = .readCache 13 ∧ (13#4).toNat < 14 ∧
    (readingCache 0 polling).nextTurn.host = .readCache 0 ∧ (0#4).toNat < 14 := by decide

theorem witness_AcceptedCommandIsLatched :
    idle.phase = .idle ∧
    operation exampleParams (.poll 30) = some (0x00, 30, .poll) ∧
    operation exampleParams (.getComPort 30) = some (0x10, 30, .readRegister 0x09) ∧
    operation exampleParams (.setActiveDelay 1000 30) =
      some (0x1B, 30, .writeRegister 0x0A 1000) ∧
    operation exampleParams (.requestQuat 30) = some (0x04, 30, .requestTelemetry 0x04) ∧
    operation exampleParams (.readAccel 30) = some (0x05, 30, .readTelemetry 0x01) ∧
    ∀ i ∈ [Instr.poll 30, .getComPort 30, .setActiveDelay 1000 30, .requestQuat 30,
      .readAccel 30], wellFormed idle.params i = true := by decide

theorem witness_OutOfDomainArgumentIsRefused :
    idle.phase = .idle ∧
    (4#32 ∉ [exampleParams.comUsb, exampleParams.comRs485, exampleParams.comCan,
      exampleParams.comVofa]) ∧ 8#32 ∉ exampleParams.bauds ∧
    0x7FF < (0x800#32).toNat ∧ 1 < (2#32).toNat ∧ (0#32).toNat = 0 ∧ 1000 < (1001#32).toNat ∧
    (presenting 0x26 0).phase = .idle ∧
    (presenting 0x26 0).nextTurn.host = .command ⟨0x26, 0, 30⟩ ∧ 0x26 ≤ (0x26#6).toNat := by
  decide

theorem witness_OtherOperationFindsPortNotReady :
    operation (getting .waitAck).params (.poll 30) = some (0x00, 30, .poll) ∧
    operation (getting .waitAck).params (.getCanBaud 29) = some (0x12, 29, .readRegister 0x0C) ∧
    operation (settingSlave .waitAck).params (.setSlaveId 3 30) =
      some (0x17, 30, .writeRegister 0x0D 3) ∧
    operation polling.params (.poll 29) = some (0x00, 29, .poll) ∧
    (getting .waitAck).phase ≠ .idle ∧ (settingSlave .waitAck).phase ≠ .idle ∧
    polling.phase ≠ .idle ∧ (getting .waitAck).latch.opc ≠ 0x00 ∧
    (getting .waitAck).latch ≠ ⟨0x12, .read, 0x0C, 0, 0, 29⟩ ∧
    (settingSlave .waitAck).latch ≠ ⟨0x17, .write, 0x0D, 1, 3, 30⟩ ∧
    (settingSlave .waitAck).latch ≠ ⟨0x04, .reqTlm, 0x04, 0, 0, 30⟩ ∧
    (settingSlave .waitAck).latch ≠ ⟨0x08, .readTlm, 0x04, 0, 0, 30⟩ ∧
    polling.latch.tmo ≠ 29 := by decide

theorem witness_RejectedSendCompletesTxFail :
    ({ getting .tx with txAnswer := -1 } : State).running (.getCanBaud 30) = true ∧
    (getting .tx).phase = .tx ∧ (-1 : Int) < 0 := by decide

theorem witness_RequestCompletesWhenSent :
    (Instr.requestAccel 30, Kind.accel) ∈ requests 30 ∧
    (busy .tx 0x01 .reqTlm 0x01 0 0).running (.requestAccel 30) = true ∧
    (busy .tx 0x02 .reqTlm 0x02 0 0).running (.requestGyro 30) = true ∧
    (busy .tx 0x03 .reqTlm 0x03 0 0).running (.requestEuler 30) = true ∧
    (busy .tx 0x04 .reqTlm 0x04 0 0).running (.requestQuat 30) = true ∧
    (busy .tx 0x01 .reqTlm 0x01 0 0).phase = .tx ∧
    0 ≤ (busy .tx 0x01 .reqTlm 0x01 0 0).txAnswer := by decide

theorem witness_AcceptedSendOpensWait :
    ((settingSlave .tx).running (.setSlaveId 2 30) = true ∧ (settingSlave .tx).phase = .tx ∧
      0 ≤ (settingSlave .tx).txAnswer ∧
      (Instr.setSlaveId 2 30, 0x0D#8) ∈ exchanges (settingSlave .tx).params 2 30) ∧
    ((readingTelemetry .tx 0x08 0x04).running (.readQuat 30) = true ∧
      (readingTelemetry .tx 0x08 0x04).phase = .tx ∧
      0 ≤ (readingTelemetry .tx 0x08 0x04).txAnswer ∧
      (Instr.readQuat 30, Kind.quat) ∈ telemetryReads 30) := by decide

theorem witness_CommandFramesAreSent :
    (getting .waitAck).phase ≠ .tx ∧
    ((getting .tx).phase = .tx ∧ ({ getting .tx with txAnswer := -1 } : State).txAnswer < 0) ∧
    ((busy .tx 0x01 .reqTlm 0x01 0 0).phase = .tx ∧
      0 ≤ (busy .tx 0x01 .reqTlm 0x01 0 0).txAnswer ∧
      (busy .tx 0x01 .reqTlm 0x01 0 0).latch.kind = .reqTlm) ∧
    (0 ≤ (getting .tx).txAnswer ∧ (getting .tx).latch.kind = .read) ∧
    (0 ≤ (settingSlave .tx).txAnswer ∧ (settingSlave .tx).latch.kind = .write) ∧
    ((readingTelemetry .tx 0x05 0x01).phase = .tx ∧
      0 ≤ (readingTelemetry .tx 0x05 0x01).txAnswer ∧
      (readingTelemetry .tx 0x05 0x01).latch.kind = .readTlm) := by decide

/-- The getter one millisecond before its deadline, the answer waiting. -/
def lastChance (ask : Byte) : State :=
  withQueue [fromMaster (response 0x0C ask)] { getting .waitAck with time := 1029 }

theorem witness_GetterDeliversValue :
    (Instr.getCanBaud 30, 0x0C#8) ∈ getters (lastChance 0).params 30 ∧
    (lastChance 0).running (.getCanBaud 30) = true ∧ (lastChance 0).phase = .waitAck ∧
    (lastChance 0).timedOut = false ∧
    (lastChance 0).rxQueue = [(response 0x0C 0).frame (lastChance 0).masterId] ∧
    (response 0x0C 0).d0 = 0xCC ∧ (response 0x0C 0).d1 = 0x0C ∧
    (response 0x0C 0).d2 = (lastChance 0).params.ackSuccess ∧ (response 0x0C 0).d3 = 0xDD := by
  decide

/-- A SAVE_PARAMETERS that awaits its answer. -/
def saving (ask : Byte) : State :=
  withQueue [fromMaster (response 0xFE ask)] (busy .waitAck 0x25 .write 0xFE 1 0)

theorem witness_PlainWriteCompletesOkZero :
    (Instr.saveParameters 30, 0xFE#8) ∈
      plainSetters (saving 0).params 0 30 ++ triggers (saving 0).params 30 ∧
    (saving 0).running (.saveParameters 30) = true ∧ (saving 0).phase = .waitAck ∧
    (saving 0).timedOut = false ∧
    (saving 0).rxQueue = [(response 0xFE 0).frame (saving 0).masterId] ∧
    (response 0xFE 0).d0 = 0xCC ∧ (response 0xFE 0).d1 = 0xFE ∧
    (response 0xFE 0).d2 = (saving 0).params.ackSuccess ∧ (response 0xFE 0).d3 = 0xDD := by decide

/-- SET_SLAVE_ID with its confirmation waiting. -/
def slaveConfirmed : State :=
  withQueue [fromMaster (response 0x0D 0)] (settingSlave .waitAck)

theorem witness_SetSlaveIdWritesBack :
    slaveConfirmed.running (.setSlaveId 2 30) = true ∧ slaveConfirmed.phase = .waitAck ∧
    slaveConfirmed.timedOut = false ∧
    slaveConfirmed.rxQueue = [(response 0x0D 0).frame slaveConfirmed.masterId] ∧
    (response 0x0D 0).d0 = 0xCC ∧ (response 0x0D 0).d1 = slaveConfirmed.params.ridSlaveId ∧
    (response 0x0D 0).d2 = slaveConfirmed.params.ackSuccess ∧ (response 0x0D 0).d3 = 0xDD := by
  decide

/-- SET_MASTER_ID with its confirmation waiting, for a value of MST_WRITEBACK. -/
def masterConfirmed (writeback : Bool) : State :=
  withQueue [fromMaster (response 0x0E 0)]
    { settingMaster .waitAck with params := { exampleParams with mstWriteback := writeback } }

theorem witness_SetMasterIdWritesBackByParameter :
    ∀ b, (masterConfirmed b).running (.setMasterId 0x12 30) = true ∧
      (masterConfirmed b).phase = .waitAck ∧ (masterConfirmed b).timedOut = false ∧
      (masterConfirmed b).rxQueue = [(response 0x0E 0).frame (masterConfirmed b).masterId] ∧
      (response 0x0E 0).d0 = 0xCC ∧
      (response 0x0E 0).d1 = (masterConfirmed b).params.ridMasterId ∧
      (response 0x0E 0).d2 = (masterConfirmed b).params.ackSuccess ∧
      (response 0x0E 0).d3 = 0xDD ∧ (masterConfirmed b).params.mstWriteback = b := by decide

theorem witness_NackReportsAckByte :
    (Instr.saveParameters 30, 0xFE#8) ∈ exchanges (saving 3).params 0 30 ∧
    (saving 3).running (.saveParameters 30) = true ∧ (saving 3).phase = .waitAck ∧
    (saving 3).timedOut = false ∧
    (saving 3).rxQueue = [(response 0xFE 3).frame (saving 3).masterId] ∧
    (response 0xFE 3).d0 = 0xCC ∧ (response 0xFE 3).d1 = 0xFE ∧
    (response 0xFE 3).d2 ≠ (saving 3).params.ackSuccess ∧ (response 0xFE 3).d3 = 0xDD := by decide

theorem witness_TimeoutPrecedesReceive :
    (({ getting .waitAck with time := 1030 } : State).running (.getCanBaud 30) = true ∧
      (getting .waitAck).phase = .waitAck ∧ (30#32) ≤ BitVec.ofNat 32 1030 - 1000#32) ∧
    (({ readingTelemetry .waitTlm 0x05 0x01 with
        latch := ⟨0x05, .readTlm, 0x01, 0, 0, 0⟩ } : State).running (.readAccel 0) = true ∧
      (readingTelemetry .waitTlm 0x05 0x01).phase = .waitTlm) := by decide

theorem witness_WaitDiscardsWhatDoesNotMatch :
    ((getting .waitAck).running (.getCanBaud 30) = true ∧
      (getting .waitAck).latch.tmo.toNat > (BitVec.ofNat 32 (getting .waitAck).time -
        (getting .waitAck).tStart).toNat ∧ (getting .waitAck).rxQueue = []) ∧
    (¬ ∃ d : Payload, (response 0x0B 0).frame 0x011 = d.frame (getting .waitAck).masterId ∧
      d.d0 = 0xCC ∧ d.d3 = 0xDD ∧ d.d1 = (getting .waitAck).latch.reg) ∧
    (readingTelemetry .waitTlm 0x05 0x01).running (.readAccel 30) = true ∧
    ¬ ∃ d : Payload, accelPayload.frame 0x012 =
      d.frame (readingTelemetry .waitTlm 0x05 0x01).masterId ∧
      d.d0 = (readingTelemetry .waitTlm 0x05 0x01).latch.reg := by
  refine ⟨by decide, ?_, by decide, ?_⟩
  · rintro ⟨d, h, -, -, h1⟩
    have hd : some (0x0B#8) = some d.d1 := congrArg (fun f => f.data[1]?) h
    rw [h1] at hd
    exact absurd hd (by decide)
  · rintro ⟨d, h, -⟩
    have hd : (0x012 : Ident) = 0x011 := congrArg Frame.id h
    exact absurd hd (by decide)

/-- A READ of a kind with a frame of that kind waiting. -/
def readAnswered (opc : BitVec 6) (reg : Byte) : State :=
  withQueue [fromMaster (telemetryPayload reg)] (readingTelemetry .waitTlm opc reg)

theorem readAnswered_open (opc : BitVec 6) (reg : Byte) :
    (readAnswered opc reg).timedOut = false :=
  (by decide : decide (30#32 ≤ BitVec.ofNat 32 1005 - 1000#32) = false)

theorem readAnswered_ready (opc : BitVec 6) (reg : Byte) :
    (readAnswered opc reg).phase = .waitTlm ∧ (readAnswered opc reg).timedOut = false ∧
    (readAnswered opc reg).rxQueue =
      [(telemetryPayload reg).frame (readAnswered opc reg).masterId] :=
  ⟨rfl, readAnswered_open opc reg, rfl⟩

theorem witness_ReadStoresItsGroup :
    exampleParams.wf ∧
    (∀ opc reg, (readAnswered opc reg).phase = .waitTlm ∧
      (readAnswered opc reg).timedOut = false ∧ (readAnswered opc reg).rxQueue =
        [(telemetryPayload reg).frame (readAnswered opc reg).masterId]) ∧
    (readAnswered 0x05 0x01).running (.readAccel 30) = true ∧
    (telemetryPayload 0x01).d0 = exampleParams.ridAccel ∧
    (readAnswered 0x06 0x02).running (.readGyro 30) = true ∧
    (telemetryPayload 0x02).d0 = exampleParams.ridGyro ∧
    (readAnswered 0x07 0x03).running (.readEuler 30) = true ∧
    (telemetryPayload 0x03).d0 = exampleParams.ridEuler ∧
    (readAnswered 0x08 0x04).running (.readQuat 30) = true ∧
    (telemetryPayload 0x04).d0 = exampleParams.ridQuat :=
  ⟨example_wf, readAnswered_ready, by decide⟩

theorem witness_PollDecodesEveryKind :
    exampleParams.wf ∧
    (∀ r, (withQueue [fromMaster (telemetryPayload r)] polling).running (.poll 30) = true ∧
      (withQueue [fromMaster (telemetryPayload r)] polling).phase = .drain ∧
      (withQueue [fromMaster (telemetryPayload r)] polling).rxQueue =
        [(telemetryPayload r).frame polling.masterId]) ∧
    (telemetryPayload 0x01).d0 = exampleParams.ridAccel ∧
    (telemetryPayload 0x02).d0 = exampleParams.ridGyro ∧
    (telemetryPayload 0x03).d0 = exampleParams.ridEuler ∧
    (telemetryPayload 0x04).d0 = exampleParams.ridQuat :=
  ⟨example_wf, fun _ => ⟨rfl, rfl, rfl⟩, by decide⟩

theorem witness_PollDiscardsAndCompletes :
    polling.running (.poll 30) = true ∧ polling.phase = .drain ∧ polling.rxQueue = [] ∧
    polling.pollHit = false ∧ ({ polling with pollHit := true } : State).pollHit = true ∧
    ¬ ∃ (d : Payload) (k : Kind), (response 0x0C 0).frame 0x011 = d.frame polling.masterId ∧
      d.d0 = polling.params.ridOf k := by
  refine ⟨by decide, by decide, by decide, by decide, by decide, ?_⟩
  rintro ⟨d, k, h, h0⟩
  have hd : some (0xCC#8) = some d.d0 := congrArg (fun f => f.data[0]?) h
  rw [h0] at hd
  cases k <;> exact absurd hd (by decide)

theorem witness_AckFrameCompletesExchange :
    ((getting .waitAck).phase = .waitAck ∧ (getting .waitAck).timedOut = false ∧
      0x0C#8 = (getting .waitAck).latch.reg ∧ 0#8 = (getting .waitAck).params.ackSuccess ∧
      1#8 ≠ (getting .waitAck).params.ackSuccess ∧ 0x0D#8 ≠ (getting .waitAck).latch.reg) ∧
    ((readingTelemetry .waitTlm 0x05 0x01).phase = .waitTlm ∧
      (readingTelemetry .waitTlm 0x05 0x01).timedOut = false) ∧ polling.phase = .drain := by decide

theorem witness_TelemetryFramesFillTheirGroup :
    polling.phase = .drain ∧
    (∀ opc reg, (readAnswered opc reg).phase = .waitTlm ∧
      (readAnswered opc reg).timedOut = false ∧ (readAnswered opc reg).latch.reg = reg) ∧
    (0x01#8 = exampleParams.ridAccel ∧ 0x02#8 = exampleParams.ridGyro ∧
      0x03#8 = exampleParams.ridEuler ∧ 0x04#8 = exampleParams.ridQuat) ∧
    (getting .waitAck).phase = .waitAck ∧ (getting .waitAck).timedOut = false :=
  ⟨rfl, fun opc reg => ⟨rfl, readAnswered_open opc reg, rfl⟩, by decide, rfl, by decide⟩

theorem witness_UnpoppedFrameStaysQueued :
    encode exampleParams (.ack 0x0C 0 3) = .receivePayload (response 0x0C 0) ∧
    idle.phase = .idle ∧ (getting .tx).phase = .tx ∧
    ({ getting .waitAck with time := 1030 } : State).timedOut = true ∧
    ({ readingTelemetry .waitTlm 0x05 0x01 with time := 1030 } : State).timedOut = true := by decide

/-- An idle engine with all four groups written. -/
def cached : State :=
  { idle with
    accel := some ⟨0x19, 1, 2, 3⟩, gyro := some ⟨4, 5, 6⟩, euler := some ⟨7, 8, 9⟩,
    quat := some ⟨0x3FFF, 0x1FFF, 0x2000, 0⟩ }

theorem witness_CacheReadDeliversCode :
    cached.accel = some ⟨0x19, 1, 2, 3⟩ ∧ cached.gyro = some ⟨4, 5, 6⟩ ∧
    cached.euler = some ⟨7, 8, 9⟩ ∧ cached.quat = some ⟨0x3FFF, 0x1FFF, 0x2000, 0⟩ := by decide

theorem witness_UnwrittenCacheReadDeliversSomeCode :
    ∀ r ∈ cacheReads, idle.code r.2 = none := by decide

theorem witness_QuantiserIsMonotoneAndExactAtEnds :
    (-accelMax < accelMax ∧ 0 < 16) ∧ (-quatMax < quatMax ∧ 0 < 1) ∧ 0 < 1 := by
  norm_num [accelMax, quatMax]

theorem witness_NoCodeDecodesToZero :
    (rangeMax .accX = some accelMax ∧ 0xFFFF = 2 ^ codeWidth .accX - 1 ∧
      (0xFFFF#16).toNat ≤ 0xFFFF ∧ (0x7FFF#16).toNat = (0xFFFF - 1) / 2 ∧
      (0x8000#16).toNat = (0xFFFF + 1) / 2) ∧
    (rangeMax .quatW = some quatMax ∧ 0x3FFF = 2 ^ codeWidth .quatW - 1 ∧
      (0x3FFF#16).toNat ≤ 0x3FFF ∧ (0x1FFF#16).toNat = (0x3FFF - 1) / 2 ∧
      (0x2000#16).toNat = (0x3FFF + 1) / 2) := by
  simp [rangeMax, codeWidth]

theorem witness_DecodedValuesStayInRange :
    rangeMax .eulPitch = some pitchMax ∧ (0xFFFF#16).toNat < 2 ^ codeWidth .eulPitch ∧
    rangeMax .quatZ = some quatMax ∧ (0x3FFF#16).toNat < 2 ^ codeWidth .quatZ := by
  simp [rangeMax, codeWidth]

theorem witness_AckReasonsAreTotal : exampleParams.wf ∧ 0x7F#8 ∉ exampleParams.acks :=
  ⟨example_wf, by decide⟩

theorem witness_EnumeratedViewsAreTotal :
    exampleParams.wf ∧ 0x63#32 ∉ exampleParams.coms ∧ 8#32 ∉ exampleParams.bauds :=
  ⟨example_wf, by decide, by decide⟩

theorem inv_of_running {s : State} (i : Instr) (hw : s.params.wf) (hr : s.running i = true)
    (hf : phaseFits s.phase s.latch.kind = true) : Inv s :=
  ⟨hw, fun _ => ⟨i, hr⟩, hf⟩

theorem inv_idle : Inv idle := ⟨example_wf, fun h => absurd rfl h, rfl⟩

theorem witness_StepKeepsInvariant :
    (∃ t, Inv idle ∧ step idle = .next t) ∧
    ∃ t, Inv slaveConfirmed ∧ step slaveConfirmed = .next t :=
  ⟨⟨_, inv_idle, rfl⟩,
   ⟨_, inv_of_running (.setSlaveId 2 30) example_wf rfl rfl, rfl⟩⟩

theorem witness_EverySentFrameIsACommand :
    exampleParams.wf ∧
    ∃ s t, Inv s ∧ step s = .next t ∧ s.phase = .tx ∧ s.sent ≠ [] ∧
      ∀ f ∈ s.sent, isCommand s.params f := by
  refine ⟨example_wf, { getting .tx with sent := [buildCommand 1 0x0C 0 0] }, _,
    inv_of_running (.getCanBaud 30) example_wf rfl rfl, rfl, rfl, by simp, ?_⟩
  intro f hf
  obtain rfl := List.mem_singleton.mp hf
  exact ⟨commandPayload 0x0C 0 0, .cmdRead 0x0C, rfl, by decide, by decide⟩

/-- What `witness_PhaseTransitionsFollowTable` shows for each row. -/
def Transition (a b : Phase) : Prop :=
  ∃ s t, Inv s ∧ step s = .next t ∧ (∀ c, s.nextTurn.host ≠ .readCache c) ∧ s.phase = a ∧
    t.phase = b

theorem witness_PhaseTransitionsFollowTable :
    Transition .idle .idle ∧ Transition .idle .drain ∧ Transition .idle .tx ∧
    Transition .tx .idle ∧ Transition .tx .waitAck ∧ Transition .tx .waitTlm ∧
    Transition .waitAck .waitAck ∧ Transition .waitAck .idle ∧ Transition .waitTlm .waitTlm ∧
    Transition .waitTlm .idle ∧ Transition .drain .drain ∧ Transition .drain .idle := by
  refine ⟨⟨idle, _, inv_idle, rfl, by decide, rfl, rfl⟩,
    ⟨presenting 0x00 0, _, ⟨example_wf, fun h => absurd rfl h, rfl⟩, rfl, by decide, rfl, rfl⟩,
    ⟨presenting 0x12 0, _, ⟨example_wf, fun h => absurd rfl h, rfl⟩, rfl, by decide, rfl, rfl⟩,
    ⟨withTurn ⟨0, 0, [], -1, .wait⟩ (getting .tx), _,
      inv_of_running (.getCanBaud 30) example_wf rfl rfl, rfl, by decide, rfl, rfl⟩,
    ⟨getting .tx, _, inv_of_running (.getCanBaud 30) example_wf rfl rfl, rfl,
      by decide, rfl, rfl⟩,
    ⟨readingTelemetry .tx 0x05 0x01, _,
      inv_of_running (.readAccel 30) example_wf rfl rfl, rfl, by decide, rfl, rfl⟩,
    ⟨getting .waitAck, _, inv_of_running (.getCanBaud 30) example_wf rfl rfl, rfl,
      by decide, rfl, rfl⟩,
    ⟨slaveConfirmed, _, inv_of_running (.setSlaveId 2 30) example_wf rfl rfl, rfl,
      by decide, rfl, rfl⟩,
    ⟨readingTelemetry .waitTlm 0x05 0x01, _,
      inv_of_running (.readAccel 30) example_wf rfl rfl, rfl, by decide, rfl, rfl⟩,
    ⟨withTurn (tick 30) (readingTelemetry .waitTlm 0x05 0x01), _,
      inv_of_running (.readAccel 30) example_wf rfl rfl, rfl, by decide, rfl, rfl⟩,
    ⟨withQueue [fromMaster accelPayload] polling, _,
      inv_of_running (.poll 30) example_wf rfl rfl, rfl, by decide, rfl, rfl⟩,
    ⟨polling, _, inv_of_running (.poll 30) example_wf rfl rfl, rfl, by decide, rfl,
      rfl⟩⟩

/-- Each condition of a wait or drain row under which several rows leave one phase: a frame that matches
and one that does not, both endings of an exchange, a timeout, an empty queue, a refused command. -/
theorem witness_PhaseTransitionsFollowTable_conditions :
    (withQueue [fromMaster (response 0x0C 0)] (getting .waitAck)).matchesAck
      (fromMaster (response 0x0C 0)) (response 0x0C 0) ∧
    (readingTelemetry .waitTlm 0x05 0x01).matchesTlm (fromMaster accelPayload) accelPayload .accel ∧
    polling.isTelemetry (fromMaster accelPayload) accelPayload .accel ∧
    (∀ x ∈ [(presenting 0x11 9, Phase.idle, OpResult.refused, 0),
        (withTurn ⟨0, 0, [], 0, .wait⟩ (busy .tx 0x02 .reqTlm 0x02 0 0), .idle, .ok 0, 0),
        (getting .waitAck, .waitAck, .none, 0),
        (withQueue [fromMaster accelPayload] (getting .waitAck), .waitAck, .none, 0),
        (withQueue [fromMaster (response 0x0C 0)] (getting .waitAck), .idle, .ok 3, 0),
        (withQueue [fromMaster (response 0x0C 1)] (getting .waitAck), .idle, .nack 1, 0),
        (withTurn (tick 25) (withQueue [fromMaster (response 0x0C 0)] (getting .waitAck)), .idle,
          .timeout, 1),
        (withQueue [fromMaster (response 0x01 1)] (readingTelemetry .waitTlm 0x05 0x01), .waitTlm,
          .none, 0),
        (withQueue [fromMaster accelPayload] (readingTelemetry .waitTlm 0x05 0x01), .idle, .ok 0, 0),
        (withQueue [fromMaster (response 0x0C 0)] polling, .drain, .none, 0)],
      seen outcome (step x.1) = some x.2) := by
  refine ⟨⟨rfl, rfl, rfl, rfl⟩, ⟨⟨rfl, rfl⟩, rfl⟩, ⟨rfl, rfl⟩, by decide⟩

theorem witness_IdentifiersChangeOnlyOnConfirmedSet :
    (∃ t, Inv slaveConfirmed ∧ step slaveConfirmed = .next t ∧
      t.slaveId ≠ slaveConfirmed.slaveId) ∧
    ∃ t, Inv (masterConfirmed true) ∧ step (masterConfirmed true) = .next t ∧
      t.masterId ≠ (masterConfirmed true).masterId :=
  ⟨⟨_, inv_of_running (.setSlaveId 2 30) example_wf rfl rfl, rfl, by decide⟩,
   ⟨_, inv_of_running (.setMasterId 0x12 30) example_wf rfl rfl, rfl, by decide⟩⟩

theorem witness_CacheChangesOnlyInPollOrRead :
    (∃ s t, Inv s ∧ step s = .next t ∧ s.phase = .drain ∧
      (t.accel, t.gyro, t.euler, t.quat) ≠ (s.accel, s.gyro, s.euler, s.quat)) ∧
    ∃ s t, Inv s ∧ step s = .next t ∧ s.phase = .waitTlm ∧
      (t.accel, t.gyro, t.euler, t.quat) ≠ (s.accel, s.gyro, s.euler, s.quat) :=
  ⟨⟨withQueue [fromMaster accelPayload] polling, _,
      inv_of_running (.poll 30) example_wf rfl rfl, rfl, rfl, by decide⟩,
   ⟨readAnswered 0x05 0x01, _,
      inv_of_running (.readAccel 30) example_wf rfl rfl, rfl, rfl, by decide⟩⟩

theorem witness_OneFramePerTransmitStep :
    (∃ t, step idle = .next t) ∧ ∃ t, (getting .tx).phase = .tx ∧ step (getting .tx) = .next t :=
  ⟨⟨_, rfl⟩, ⟨_, rfl, rfl⟩⟩

theorem witness_FailuresLeaveStateClean :
    (∃ s t, step s = .next t ∧ s.phase ≠ .drain ∧ s.phase ≠ .idle ∧ t.phase = .idle ∧
      ¬ ∃ v, t.phase = .idle ∧ t.result = .ok v ∧ s.phase ≠ .idle) ∧
    ∃ s t, step s = .next t ∧ s.phase = .drain ∧
      ¬ ∃ v, t.phase = .idle ∧ t.result = .ok v ∧ s.phase ≠ .idle :=
  ⟨⟨withTurn (tick 30) (getting .waitAck), _, rfl, by decide, by decide, rfl,
      fun ⟨_, _, h, _⟩ => OpResult.noConfusion h⟩,
   ⟨withQueue [fromMaster accelPayload] polling, _, rfl, rfl,
      fun ⟨_, h, _, _⟩ => Phase.noConfusion h⟩⟩

theorem witness_StepKeepsWiringAndLatch :
    ∃ t, step (getting .waitAck) = .next t ∧ (getting .waitAck).phase ≠ .idle :=
  ⟨_, rfl, by decide⟩

/-- A POLL with two waiting frames and a quiet environment. -/
def draining : State :=
  { withQueue [fromMaster accelPayload, fromMaster (response 0x0C 0)] polling with
    script := [tick 0, tick 0, tick 0] }

theorem witness_PollDrainsTheQueue :
    draining.phase = .drain ∧
    draining.script = List.replicate (draining.rxQueue.length + 1) (tick 0) ++ [] := by decide

/-- A GET_CAN_BAUD to be issued, sent and answered in the last millisecond of its window. -/
def exchanging : State :=
  { idle with
    script := [⟨0, 0, [], 0, .command ⟨0x12, 0, 30⟩⟩, ⟨0, 0, [], 0, .wait⟩,
      ⟨29, 0, [fromMaster (response 0x0C 0)], 0, .wait⟩] }

theorem witness_GetterExchangeCompletes :
    (Instr.getCanBaud 30, 0x0C#8) ∈ getters exchanging.params 30 ∧
    decodeHost ⟨0x12, 0, 30⟩ = .ok (.getCanBaud 30) ∧ exchanging.phase = .idle ∧
    exchanging.rxQueue = [] ∧ exchanging.params.rxCapacity.depth ≠ some 0 ∧ (0 : Int) ≤ 0 ∧ 29 < (30#32).toNat ∧
    (response 0x0C 0).d0 = 0xCC ∧ (response 0x0C 0).d1 = 0x0C ∧
    (response 0x0C 0).d2 = exchanging.params.ackSuccess ∧ (response 0x0C 0).d3 = 0xDD ∧
    exchanging.script = ⟨0, 0, [], 0, .command ⟨0x12, 0, 30⟩⟩ :: ⟨0, 0, [], 0, .wait⟩ ::
      ⟨29, 0, [(response 0x0C 0).frame exchanging.masterId], 0, .wait⟩ :: [] := by decide

/-- A wait that nothing ends, with 25 milliseconds to go. -/
def unanswered (s : State) : State :=
  { s with script := List.replicate 25 (tick 1) }

theorem witness_UnansweredWaitTimesOut :
    ∀ s ∈ [getting .waitAck, readingTelemetry .waitTlm 0x05 0x01],
      ((unanswered s).phase = .waitAck ∨ (unanswered s).phase = .waitTlm) ∧
      (unanswered s).rxQueue = [] ∧ 0 < 25 ∧
      (BitVec.ofNat 32 (unanswered s).time - (unanswered s).tStart).toNat + 25 =
        (unanswered s).latch.tmo.toNat ∧
      (unanswered s).script = List.replicate 25 (tick 1) ++ [] := by decide

/-- A drained queue of depth 2 with one waiting frame, at which `fs` arrive. -/
def arriving (o : Overflow) (fs : List Frame) : State :=
  { withTurn ⟨0, 0, fs, 0, .wait⟩ (withQueue [fromMaster accelPayload] polling) with
    params := { exampleParams with rxCapacity := ⟨some 2, o⟩ } }

theorem witness_ArrivalsFollowCapacity :
    (arriving .dropNewest []).nextTurn.arrivals = [] ∧
    (arriving .dropNewest [fromMaster (response 0x0C 0)]).rxQueue.length +
      (arriving .dropNewest [fromMaster (response 0x0C 0)]).nextTurn.arrivals.length ≤ 2 ∧
    ∀ o ∈ [Overflow.dropNewest, .dropOldest],
      (arriving o []).params.rxCapacity.depth = some 2 ∧ (arriving o []).rxQueue.length ≤ 2 ∧
      (arriving o []).params.rxCapacity.overflow = o ∧
      [] = (withTurn ⟨0, 1, [], 0, .wait⟩ (arriving o [])).rxQueue.drop 1 := by decide

theorem witness_TakenFramesAreNeverSeen :
    (withTurn ⟨0, 1, [], 0, .wait⟩ polling).script = [⟨0, 1, [], 0, .wait⟩] := rfl

theorem witness_FramesSeenAreASubsequence :
    ∃ t, step (arriving .dropOldest [fromMaster (response 0x0C 0)]) = .next t := ⟨_, rfl⟩

theorem witness_StepKeepsQueueWithinCapacity :
    ∀ o, ∃ t, (arriving o [fromMaster (response 0x0C 0)]).queueFits ∧
      step (arriving o [fromMaster (response 0x0C 0)]) = .next t := by
  intro o
  refine ⟨_, fun n hn => ?_, rfl⟩
  obtain rfl : 2 = n := Option.some.inj hn
  exact Nat.le_succ 1

end Sys2Proof.Tests
end

section
/-! PROOFS of the family 00_scope: the receive queue under RX_CAPACITY, the invariant right after reset,
and the instruction that a step runs. -/

namespace Sys2Proof.Machine

/-! ## The receive queue under RX_CAPACITY -/

/-- Arrivals that all find room join the queue in their order. -/
theorem enqueueAll_eq_append {c : RxCapacity} {q fs : List Frame}
    (hfit : ∀ n, c.depth = some n → q.length + fs.length ≤ n) : enqueueAll c q fs = q ++ fs := by
  induction fs generalizing q with
  | nil => simp
  | cons f fs ih =>
    have hroom : enqueue c q f = q ++ [f] := by
      rcases enqueue_cases c q f with ⟨-, e⟩ | ⟨n, hd, hfull, -⟩
      · exact e
      · have h := hfit n hd
        simp only [List.length_cons] at h
        omega
    have hrest : enqueueAll c (q ++ [f]) fs = (q ++ [f]) ++ fs := ih fun n hd => by
      simpa [Nat.add_assoc, Nat.add_comm 1] using hfit n hd
    rw [enqueueAll_cons, hroom, hrest, List.append_assoc, List.singleton_append]

/-- A queue that drops the newest keeps the first frames that its depth holds. -/
theorem enqueueAll_dropNewest {c : RxCapacity} {n : Nat} (fs : List Frame)
    (hd : c.depth = some n) (ho : c.overflow = .dropNewest) {q : List Frame} (hq : q.length ≤ n) :
    enqueueAll c q fs = (q ++ fs).take n := by
  induction fs generalizing q with
  | nil => simpa using hq
  | cons f fs ih =>
    rw [enqueueAll_cons, ih (enqueue_length_le f hd hq)]
    rcases enqueue_cases c q f with ⟨-, e⟩ | ⟨m, hm, hfull, ⟨-, e⟩ | ⟨ho', -⟩⟩
    · rw [e, List.append_assoc, List.singleton_append]
    · obtain rfl : n = m := Option.some.inj (hd.symm.trans hm)
      rw [e, List.take_append_of_le_length hfull, List.take_append_of_le_length hfull]
    · simp [ho] at ho'

/-- A queue that drops the oldest keeps the last frames that its depth holds. -/
theorem enqueueAll_dropOldest {c : RxCapacity} {n : Nat} (fs : List Frame)
    (hd : c.depth = some n) (ho : c.overflow = .dropOldest) {q : List Frame} (hq : q.length ≤ n) :
    enqueueAll c q fs = (q ++ fs).drop (q.length + fs.length - n) := by
  induction fs generalizing q with
  | nil => simp [Nat.sub_eq_zero_of_le hq]
  | cons f fs ih =>
    rw [enqueueAll_cons, ih (enqueue_length_le f hd hq)]
    rcases enqueue_cases c q f with ⟨-, e⟩ | ⟨m, hm, hfull, ⟨ho', -⟩ | ⟨-, e⟩⟩
    · simp [e, Nat.add_assoc, Nat.add_comm 1]
    · simp [ho] at ho'
    · obtain rfl : n = m := Option.some.inj (hd.symm.trans hm)
      have hshift : (q ++ [f]).tail ++ fs = (q ++ f :: fs).drop 1 := by
        rw [← List.tail_append_of_ne_nil (by simp), List.append_assoc, List.singleton_append,
          List.drop_one]
      rw [e, hshift, List.drop_drop]
      congr 1
      simp only [List.length_tail, List.length_append, List.length_cons, List.length_nil]
      omega

/-! ## What the engine's step does to the queue and the parameters -/

@[simp] theorem State.sendCommand_rxQueue (reg mode : Byte) (value : Word) (s : State) :
    (s.sendCommand reg mode value).rxQueue = s.rxQueue := by
  rcases sendCommand_cases reg mode value s with ⟨-, e⟩ | ⟨-, -, e⟩ | ⟨-, -, e⟩ | ⟨-, -, e⟩ <;>
    simp [e]

@[simp] theorem State.sendCommand_params (reg mode : Byte) (value : Word) (s : State) :
    (s.sendCommand reg mode value).params = s.params := by
  rcases sendCommand_cases reg mode value s with ⟨-, e⟩ | ⟨-, -, e⟩ | ⟨-, -, e⟩ | ⟨-, -, e⟩ <;>
    simp [e]

@[simp] theorem State.ackComplete_rxQueue (ask : Byte) (value : Word) (s : State) :
    (s.ackComplete ask value).rxQueue = s.rxQueue := by
  rcases ackComplete_cases ask value s with ⟨-, e⟩ | ⟨-, e⟩ <;> simp [e]

@[simp] theorem State.ackComplete_params (ask : Byte) (value : Word) (s : State) :
    (s.ackComplete ask value).params = s.params := by
  rcases ackComplete_cases ask value s with ⟨-, e⟩ | ⟨-, e⟩ <;> simp [e]

@[simp] theorem State.onAck_rxQueue (reg ask : Byte) (value : Word) (s : State) :
    (s.onAck reg ask value).rxQueue = s.rxQueue := by
  rcases onAck_cases reg ask value s with ⟨-, -, e⟩ | ⟨-, e⟩ <;> simp [e]

@[simp] theorem State.onAck_params (reg ask : Byte) (value : Word) (s : State) :
    (s.onAck reg ask value).params = s.params := by
  rcases onAck_cases reg ask value s with ⟨-, -, e⟩ | ⟨-, e⟩ <;> simp [e]

@[simp] theorem State.onTelemetry_rxQueue (c : Telemetry) (s : State) :
    (s.onTelemetry c).rxQueue = s.rxQueue := by
  rcases onTelemetry_cases c s with ⟨-, -, e⟩ | ⟨-, e⟩ | ⟨-, -, e⟩ <;> simp [e]

@[simp] theorem State.onTelemetry_params (c : Telemetry) (s : State) :
    (s.onTelemetry c).params = s.params := by
  rcases onTelemetry_cases c s with ⟨-, -, e⟩ | ⟨-, e⟩ | ⟨-, -, e⟩ <;> simp [e]

@[simp] theorem State.consume_rxQueue (r : Received) (s : State) :
    (s.consume r).rxQueue = s.rxQueue := by
  rcases consume_cases r s with ⟨reg, ask, value, -, e⟩ | ⟨k, d, -, e⟩ | ⟨-, e⟩ <;> simp [e]

@[simp] theorem State.consume_params (r : Received) (s : State) :
    (s.consume r).params = s.params := by
  rcases consume_cases r s with ⟨reg, ask, value, -, e⟩ | ⟨k, d, -, e⟩ | ⟨-, e⟩ <;> simp [e]

/-- The engine's own step pops frames from the head of the queue or leaves it as it is. -/
theorem engineStep_rxQueue_suffix (s : State) : s.engineStep.rxQueue <:+ s.rxQueue := by
  rcases engineStep_cases s with
    ⟨-, e⟩ | ⟨-, e⟩ | ⟨-, -, e⟩ | ⟨-, -, -, e⟩ | ⟨-, f, q, hq, e⟩ | ⟨-, -, e⟩
  case inr.inr.inr.inr.inl =>
    rw [e, State.consume_rxQueue, hq]
    exact List.suffix_cons f q
  all_goals simp [e]

@[simp] theorem State.engineStep_params (s : State) : s.engineStep.params = s.params := by
  rcases engineStep_cases s with
    ⟨-, e⟩ | ⟨-, e⟩ | ⟨-, -, e⟩ | ⟨-, -, -, e⟩ | ⟨-, f, q, hq, e⟩ | ⟨-, -, e⟩ <;> simp [e]

/-! ## What a step does -/

/-- The next state of a step, without the conditions of `step_cases`: in the state after the turn the
host reads the cache, its command is issued or refused, or the engine takes its own step. -/
theorem step_next_cases {s t : State} (h : step s = .next t) :
    (∃ r, t = s.afterTurn.readCache r) ∨
    (∃ opc tmo prim, t = s.afterTurn.issue opc tmo prim) ∨
    t = s.afterTurn.refuse ∨ t = s.afterTurn.engineStep := by
  rcases step_cases s with ⟨a, i, r, -, -, -, e⟩ | ⟨a, -, -, e⟩ |
    ⟨c, i, opc, tmo, prim, -, -, -, -, -, e⟩ | ⟨c, -, -, -, e⟩ | ⟨-, -, e⟩ <;> rw [e] at h
  · exact .inl ⟨r, (Host.Outcome.next.inj h).symm⟩
  · simp at h
  · exact .inr (.inl ⟨opc, tmo, prim, (Host.Outcome.next.inj h).symm⟩)
  · exact .inr (.inr (.inl (Host.Outcome.next.inj h).symm))
  · exact .inr (.inr (.inr (Host.Outcome.next.inj h).symm))

/-- After its turn a step only pops frames from the head of the queue. -/
theorem step_rxQueue_suffix {s t : State} (h : step s = .next t) :
    t.rxQueue <:+ s.afterTurn.rxQueue := by
  rcases step_next_cases h with ⟨r, rfl⟩ | ⟨opc, tmo, prim, rfl⟩ | rfl | rfl
  · rw [State.readCache_rxQueue]
  · rw [State.issue_rxQueue]
  · rw [State.refuse_rxQueue]
  · exact engineStep_rxQueue_suffix s.afterTurn

/-- No step writes the parameters (10_state R40). -/
theorem step_params {s t : State} (h : step s = .next t) : t.params = s.params := by
  rcases step_next_cases h with ⟨r, rfl⟩ | ⟨opc, tmo, prim, rfl⟩ | rfl | rfl <;> simp

/-- An idle engine runs the instruction that the presented command decodes to (40_protocol_engine
R131). -/
theorem step_of_command {s : State} {c : HostCmd} {i : Instr} (hc : s.nextTurn.host = .command c)
    (hp : s.phase = .idle) (hd : decode s.params (.hostCommand c) = .ok i) :
    step s = exec i s.afterTurn := by
  simp [step, hc, hp, hd]

/-- In any phase a step runs the cache read that the presented address decodes to (10_state R25). -/
theorem step_of_readCache {s : State} {a : BitVec 4} {i : Instr}
    (ha : s.nextTurn.host = .readCache a) (hd : decode s.params (.cacheAddress a) = .ok i) :
    step s = exec i s.afterTurn := by
  simp [step, ha, hd]

/-- A busy engine, its cache not being read, takes its own step (40_protocol_engine R131). -/
theorem step_of_busy {s : State} (hp : s.phase ≠ .idle)
    (hr : ∀ a, s.nextTurn.host ≠ .readCache a) : step s = .next s.afterTurn.engineStep := by
  rcases step_cases s with ⟨a, _, _, h, -⟩ | ⟨a, h, -⟩ | ⟨_, _, _, _, _, -, h, -⟩ |
    ⟨_, -, h, -⟩ | ⟨-, -, e⟩
  · exact absurd h (hr a)
  · exact absurd h (hr a)
  · exact absurd h hp
  · exact absurd h hp
  · exact e

/-! ## The operation in progress -/

/-- An operation is in progress when it is a well-formed row of 30_encoding R104 and the latch holds
what that row expands to. -/
theorem State.running_iff {s : State} {i : Instr} :
    s.running i = true ↔ ∃ opc tmo prim, operation s.params i = some (opc, tmo, prim) ∧
      wellFormed s.params i = true ∧ s.latch.holds opc tmo prim = true := by
  unfold State.running
  cases h : operation s.params i with
  | none => simp
  | some row =>
    obtain ⟨opc, tmo, prim⟩ := row
    simp

/-- A turn leaves the operation in progress. -/
@[simp] theorem State.afterTurn_running (s : State) (i : Instr) :
    s.afterTurn.running i = s.running i := by
  simp [State.running]

/-- The operation in progress means the engine's own step. -/
theorem exec_of_running {s : State} {i : Instr} (hp : s.phase ≠ .idle) (hi : s.running i = true) :
    exec i s = .next s.engineStep := by
  obtain ⟨opc, tmo, prim, hop, -, hholds⟩ := State.running_iff.mp hi
  rw [exec_operation hop]
  rcases hostOp_cases opc tmo prim (wellFormed s.params i) s with
    ⟨h, -⟩ | ⟨h, -⟩ | ⟨-, -, e⟩ | ⟨-, h, -⟩
  · exact absurd h hp
  · exact absurd h hp
  · exact e
  · simp [hholds] at h

end Sys2Proof.Machine

namespace Sys2Proof.Config

/-! ## The free parameters meet 00_scope R6 -/

/-- The register id at a number of the free order of the 16 slots. -/
def slotId (i : Fin 16) : Byte :=
  BitVec.ofFin ((slotOrder i).castLE (by decide))

theorem slotId_toNat (i : Fin 16) : (slotId i).toNat = (slotOrder i).val := rfl

theorem slotId_injective : Function.Injective slotId := fun i j h => by
  have hval : (slotOrder i).val = (slotOrder j).val := by
    rw [← slotId_toNat, ← slotId_toNat, h]
  exact slotOrder.injective (Fin.ext hval)

theorem slotId_lt (i : Fin 16) : slotId i < 16#8 := by
  rw [BitVec.lt_def, slotId_toNat]
  exact (slotOrder i).isLt

theorem params_slots : params.slots = (List.finRange 16).map slotId := rfl

theorem params_acks : params.acks = [0, 1, 2, 3].map ackOrder := rfl

theorem params_coms : params.coms = [0, 1, 2, 3].map comOrder := rfl

theorem params_bauds : params.bauds = [0, 1, 2, 3, 4, 5, 6, 7].map baudOrder := rfl

/-- The free parameters meet the constraints of 00_scope R6: each list of codes is the image of distinct
numbers under an injective map. -/
theorem params_wf : params.wf := by
  refine ⟨?slots, ?slotsBelow16, ?acks, ?coms, ?bauds⟩
  case slots =>
    rw [params_slots]
    exact (List.nodup_finRange 16).map slotId_injective
  case slotsBelow16 =>
    rw [params_slots]
    exact List.forall_mem_map.mpr fun i _ => slotId_lt i
  case acks =>
    rw [params_acks]
    exact List.Nodup.map ackOrder.injective (by decide)
  case coms =>
    rw [params_coms]
    exact List.Nodup.map comOrder.injective (by decide)
  case bauds =>
    rw [params_bauds]
    exact List.Nodup.map baudOrder.injective (by decide)

end Sys2Proof.Config

namespace Sys2Proof.Proofs

open Sys2Proof Sys2Proof.Machine

/-- Settles O56: each clause is what the arrivals do to the queue that the other reader has left. -/
theorem arrivalsFollowCapacity : Obligations.ArrivalsFollowCapacity := by
  unfold Obligations.ArrivalsFollowCapacity
  rintro s q rfl
  simp only [State.afterTurn_rxQueue, queueAfter]
  refine ⟨fun h => by rw [h, enqueueAll_nil], enqueueAll_eq_append, fun n hd hlen => ?_⟩
  have hq : (s.rxQueue.drop s.nextTurn.taken).length ≤ n :=
    ((List.drop_sublist _ _).length_le).trans hlen
  cases ho : s.params.rxCapacity.overflow with
  | dropNewest => exact enqueueAll_dropNewest _ hd ho hq
  | dropOldest => exact enqueueAll_dropOldest _ hd ho hq

/-- Settles O57: the turn keeps the queue within its depth, and the rest of the step only pops. -/
theorem stepKeepsQueueWithinCapacity : Obligations.StepKeepsQueueWithinCapacity := by
  unfold Obligations.StepKeepsQueueWithinCapacity
  intro s t hfits hstep n hd
  rw [step_params hstep] at hd
  calc t.rxQueue.length
      ≤ s.afterTurn.rxQueue.length := (step_rxQueue_suffix hstep).length_le
    _ = (queueAfter s.params.rxCapacity s.nextTurn s.rxQueue).length := by
        rw [State.afterTurn_rxQueue]
    _ ≤ n := queueAfter_length_le hd (hfits n hd)

/-- Settles O1: the two ports by what `step` decodes there, the operation in progress because its
meaning is the engine's own step. -/
theorem stepRunsDecodedInstruction : Obligations.StepRunsDecodedInstruction := by
  unfold Obligations.StepRunsDecodedInstruction
  exact fun s i => ⟨fun _ => step_of_command, fun _ => step_of_readCache, fun hp hr hi => by
    rw [step_of_busy hp hr, exec_of_running (by simpa using hp) (by simpa using hi)]⟩

/-- Settles O13: in IDLE the invariant asks only that the parameters meet 00_scope R6. -/
theorem resetMeetsInvariant : Obligations.ResetMeetsInvariant := by
  unfold Obligations.ResetMeetsInvariant
  exact ⟨Config.params_wf, fun hbusy => absurd rfl hbusy, rfl⟩

/-- Settles O58: the frames at construction arrive one by one at an empty queue. -/
theorem resetQueueIsWithinCapacity : Obligations.ResetQueueIsWithinCapacity := by
  unfold Obligations.ResetQueueIsWithinCapacity
  exact fun n hd => enqueueAll_length_le Config.rxAtConstruction hd (Nat.zero_le n)

end Sys2Proof.Proofs
end

section
/-! PROOFS of the family 10_state: the cache read port, what a step keeps of the latch, the time and the
frames sent, the views of RESULT, and another reader on the transport. -/

namespace Sys2Proof.Machine

/-! ## The cache read port -/

/-- Only the addresses 0 to 13 decode to a cache read (10_state R25). -/
theorem decodeCache_ok_lt {a : BitVec 4} {i : Instr} (h : decodeCache a = .ok i) :
    a.toNat < 14 := by
  unfold decodeCache at h
  split at h <;> cases h <;> omega

/-- The meaning of a cache read is the read of its register. -/
theorem exec_cacheRead {i : Instr} {r : CacheReg} (h : (i, r) ∈ cacheReads) (s : State) :
    exec i s = .next (s.readCache r) := by
  cases r <;>
    simp only [cacheReads, List.mem_cons, List.not_mem_nil, Prod.mk.injEq, reduceCtorEq, and_true,
      and_false, or_false, false_or] at h <;>
    subst h <;> rfl

/-- A cache read of a written group delivers its code and changes nothing else (10_state R25). -/
theorem exec_cacheRead_of_code {i : Instr} {s : State} {c : BitVec 16} (r : CacheReg)
    (hi : (i, r) ∈ cacheReads) (hc : s.code r = some c) :
    exec i s = .next { s with cacheData := some c } := by
  rcases readCache_cases r s with ⟨d, hd, e⟩ | ⟨hn, -⟩
  · obtain rfl := Option.some.inj (hc.symm.trans hd)
    rw [exec_cacheRead hi, e]
  · simp [hn] at hc

/-- A cache read of an unwritten group delivers the next free code and counts the draw (10_state
R23). -/
theorem exec_cacheRead_of_code_none {i : Instr} {s : State} {r : CacheReg}
    (hi : (i, r) ∈ cacheReads) (hn : s.code r = none) :
    exec i s =
      .next { s with cacheData := some (freeCodeOf r s.draws), draws := s.draws + 1 } := by
  rcases readCache_cases r s with ⟨c, hc, -⟩ | ⟨-, e⟩
  · simp [hn] at hc
  · rw [exec_cacheRead hi, e]

/-- A free code fits its register. -/
theorem freeCodeOf_toNat_lt (r : CacheReg) (n : Nat) :
    (freeCodeOf r n).toNat < 2 ^ codeWidth r := by
  rw [freeCodeOf, BitVec.toNat_setWidth]
  exact (Nat.mod_le _ _).trans_lt (BitVec.isLt _)

/-! ## What the engine's step does to the latch, the time and the frames sent -/

@[simp] theorem State.sendCommand_latch (reg mode : Byte) (value : Word) (s : State) :
    (s.sendCommand reg mode value).latch = s.latch := by
  rcases sendCommand_cases reg mode value s with ⟨-, e⟩ | ⟨-, -, e⟩ | ⟨-, -, e⟩ | ⟨-, -, e⟩ <;>
    simp [e]

@[simp] theorem State.sendCommand_time (reg mode : Byte) (value : Word) (s : State) :
    (s.sendCommand reg mode value).time = s.time := by
  rcases sendCommand_cases reg mode value s with ⟨-, e⟩ | ⟨-, -, e⟩ | ⟨-, -, e⟩ | ⟨-, -, e⟩ <;>
    simp [e]

/-- Whatever the transport answers, one frame has been handed to it (40_protocol_engine R133). -/
@[simp] theorem State.sendCommand_sent (reg mode : Byte) (value : Word) (s : State) :
    (s.sendCommand reg mode value).sent =
      s.sent ++ [buildCommand s.slaveId reg mode value] := by
  rcases sendCommand_cases reg mode value s with ⟨-, e⟩ | ⟨-, -, e⟩ | ⟨-, -, e⟩ | ⟨-, -, e⟩ <;>
    simp [e]

/-- The next state of a popped frame, without the conditions: the exchange or the wait completes, with
or without a write, telemetry is decoded in DRAIN, or the frame is discarded. -/
theorem consume_next_cases (r : Received) (s : State) :
    (∃ x, s.consume r = s.writeBack.complete x) ∨ (∃ x, s.consume r = s.complete x) ∨
    (∃ c x, s.consume r = (s.store c).complete x) ∨
    (∃ c, s.consume r = { s.store c with pollHit := true }) ∨ s.consume r = s := by
  rcases consume_cases r s with ⟨reg, ask, value, -, e⟩ | ⟨k, d, -, e⟩ | ⟨-, e⟩ <;> rw [e]
  · rcases onAck_cases reg ask value s with ⟨-, -, e⟩ | ⟨-, e⟩ <;> rw [e]
    · rcases ackComplete_cases ask value s with ⟨-, e⟩ | ⟨-, e⟩ <;> rw [e]
      · exact .inl ⟨_, rfl⟩
      · exact .inr (.inl ⟨_, rfl⟩)
    · exact .inr (.inr (.inr (.inr rfl)))
  · rcases onTelemetry_cases (decodeTelemetry k d) s with ⟨-, -, e⟩ | ⟨-, e⟩ | ⟨-, -, e⟩ <;> rw [e]
    · exact .inr (.inr (.inl ⟨_, _, rfl⟩))
    · exact .inr (.inr (.inr (.inl ⟨_, rfl⟩)))
    · exact .inr (.inr (.inr (.inr rfl)))
  · exact .inr (.inr (.inr (.inr rfl)))

@[simp] theorem State.consume_latch (r : Received) (s : State) :
    (s.consume r).latch = s.latch := by
  rcases consume_next_cases r s with ⟨x, e⟩ | ⟨x, e⟩ | ⟨c, x, e⟩ | ⟨c, e⟩ | e <;> simp [e]

@[simp] theorem State.consume_time (r : Received) (s : State) : (s.consume r).time = s.time := by
  rcases consume_next_cases r s with ⟨x, e⟩ | ⟨x, e⟩ | ⟨c, x, e⟩ | ⟨c, e⟩ | e <;> simp [e]

@[simp] theorem State.consume_sent (r : Received) (s : State) : (s.consume r).sent = s.sent := by
  rcases consume_next_cases r s with ⟨x, e⟩ | ⟨x, e⟩ | ⟨c, x, e⟩ | ⟨c, e⟩ | e <;> simp [e]

@[simp] theorem State.engineStep_latch (s : State) : s.engineStep.latch = s.latch := by
  rcases engineStep_cases s with
    ⟨-, e⟩ | ⟨-, e⟩ | ⟨-, -, e⟩ | ⟨-, -, -, e⟩ | ⟨-, f, q, -, e⟩ | ⟨-, -, e⟩ <;> simp [e]

@[simp] theorem State.engineStep_time (s : State) : s.engineStep.time = s.time := by
  rcases engineStep_cases s with
    ⟨-, e⟩ | ⟨-, e⟩ | ⟨-, -, e⟩ | ⟨-, -, -, e⟩ | ⟨-, f, q, -, e⟩ | ⟨-, -, e⟩ <;> simp [e]

/-- The engine's own step sends a frame or leaves the record of frames sent as it is. -/
theorem sent_prefix_engineStep (s : State) : s.sent <+: s.engineStep.sent := by
  rcases engineStep_cases s with
    ⟨-, e⟩ | ⟨-, e⟩ | ⟨-, -, e⟩ | ⟨-, -, -, e⟩ | ⟨-, f, q, -, e⟩ | ⟨-, -, e⟩ <;> simp [e]

/-! ## What a step keeps -/

/-- The true time of a step is that of the environment's turn (60_exceptions R294). -/
theorem step_time {s t : State} (h : step s = .next t) : t.time = s.time + s.nextTurn.elapse := by
  rcases step_next_cases h with ⟨r, rfl⟩ | ⟨opc, tmo, prim, rfl⟩ | rfl | rfl <;> simp

/-- No step takes a frame back that the transport was handed. -/
theorem sent_prefix_step {s t : State} (h : step s = .next t) : s.sent <+: t.sent := by
  rcases step_next_cases h with ⟨r, rfl⟩ | ⟨opc, tmo, prim, rfl⟩ | rfl | rfl
  · simp
  · simp
  · simp
  · simpa using sent_prefix_engineStep s.afterTurn

/-- Only an issue step writes the latch, and a busy engine does not issue (10_state R29). -/
theorem step_latch_of_busy {s t : State} (h : step s = .next t) (hp : s.phase ≠ .idle) :
    t.latch = s.latch := by
  rcases step_cases s with ⟨_, _, r, -, -, -, e⟩ | ⟨_, -, -, e⟩ | ⟨_, _, _, _, _, -, hidle, -⟩ |
    ⟨_, -, hidle, -⟩ | ⟨-, -, e⟩
  · obtain rfl := Host.Outcome.next.inj (e.symm.trans h)
    simp
  · simp [e] at h
  · exact absurd hidle hp
  · exact absurd hidle hp
  · obtain rfl := Host.Outcome.next.inj (e.symm.trans h)
    simp

/-- A step sees of its state only the state after the turn and the host's move. -/
theorem step_congr {s s' : State} (hturn : s.afterTurn = s'.afterTurn)
    (hhost : s.nextTurn.host = s'.nextTurn.host) : step s = step s' := by
  simp only [step, hturn, hhost]

/-! ## The turn at the head of the script -/

theorem State.nextTurn_of_script {s : State} {t : Turn} {rest : List Turn}
    (h : s.script = t :: rest) : s.nextTurn = t := by
  simp [State.nextTurn, h]

theorem State.afterTurn_of_script {s : State} {t : Turn} {rest : List Turn}
    (h : s.script = t :: rest) : s.afterTurn = { s with script := rest }.environment t := by
  simp [State.afterTurn, h]

/-- A turn that takes frames is the turn that takes none, at a queue without these frames. -/
theorem queueAfter_drop_taken (c : RxCapacity) (t : Turn) (q : List Frame) :
    queueAfter c { t with taken := 0 } (q.drop t.taken) = queueAfter c t q :=
  queueAfter_of_taken_zero _ rfl

/-! ## The views of RESULT -/

theorem OpResult.value_eq_some_iff {r : OpResult} {v : Word} : r.value = some v ↔ r = .ok v := by
  cases r <;> simp [OpResult.value]

theorem OpResult.ackByte_eq_some_iff {r : OpResult} {a : Byte} :
    r.ackByte = some a ↔ r = .nack a := by
  cases r <;> simp [OpResult.ackByte]

theorem OpResult.success_iff_tag {r : OpResult} : r.success = true ↔ r.tag = 1 :=
  beq_iff_eq

theorem OpResult.sentinelView_value_iff {r : OpResult} {v : Word} :
    r.sentinelView = .value v ↔ r = .ok v := by
  cases r <;> simp [OpResult.sentinelView]

theorem OpResult.sentinelView_timedOut_iff {r : OpResult} :
    r.sentinelView = .timedOut ↔ r = .timeout := by
  cases r <;> simp [OpResult.sentinelView]

theorem OpResult.sentinelView_absent_iff {r : OpResult} :
    r.sentinelView = .absent ↔ r = .txFail ∨ (∃ a, r = .nack a) ∨ r = .none ∨ r = .refused := by
  cases r <;> simp [OpResult.sentinelView]

/-- The outcome read back from RES_TAG, RES_VALUE and RES_ACK (10_state R33). -/
def OpResult.ofViews (tag : BitVec 3) : Option Word → Option Byte → OpResult
  | some v, _ => .ok v
  | Option.none, some a => .nack a
  | Option.none, Option.none =>
    if tag = 0 then .none else if tag = 2 then .txFail else if tag = 3 then .timeout else .refused

theorem OpResult.ofViews_views (r : OpResult) : OpResult.ofViews r.tag r.value r.ackByte = r := by
  cases r <;> rfl

/-- The three registers of RESULT together determine the outcome (10_state R33). -/
theorem OpResult.eq_of_views {r r' : OpResult} (htag : r.tag = r'.tag)
    (hvalue : r.value = r'.value) (hack : r.ackByte = r'.ackByte) : r = r' := by
  rw [← r.ofViews_views, htag, hvalue, hack, r'.ofViews_views]

end Sys2Proof.Machine

namespace Sys2Proof.Proofs

open Sys2Proof Sys2Proof.Machine

/-- Settles O7: a step whose host reads the cache is a read at a decoded address or a refusal at a
reserved one. -/
theorem reservedCacheAddressesAreRefused : Obligations.ReservedCacheAddressesAreRefused := by
  unfold Obligations.ReservedCacheAddressesAreRefused
  intro s a ha
  rcases step_cases s with ⟨b, i, r, hb, hi, -, e⟩ | ⟨b, hb, hle, e⟩ | ⟨c, _, _, _, _, hc, -⟩ |
    ⟨c, hc, -⟩ | ⟨-, hno, -⟩
  · obtain rfl := HostMove.readCache.inj (ha.symm.trans hb)
    exact ⟨fun h => absurd (decodeCache_ok_lt hi) (Nat.not_lt.mpr h), fun _ => ⟨_, e⟩⟩
  · obtain rfl := HostMove.readCache.inj (ha.symm.trans hb)
    exact ⟨fun _ => e, fun h => absurd hle (Nat.not_le.mpr h)⟩
  · simp [ha] at hc
  · simp [ha] at hc
  · exact absurd ha (hno a)

/-- Settles O34: each of the 14 reads by the register it reads, whose group is written. -/
theorem cacheReadDeliversCode : Obligations.CacheReadDeliversCode := by
  unfold Obligations.CacheReadDeliversCode
  intro s a g e q
  refine ⟨fun h => ⟨exec_cacheRead_of_code .temp ?_ ?_, exec_cacheRead_of_code .accX ?_ ?_,
      exec_cacheRead_of_code .accY ?_ ?_, exec_cacheRead_of_code .accZ ?_ ?_⟩,
    fun h => ⟨exec_cacheRead_of_code .gyrX ?_ ?_, exec_cacheRead_of_code .gyrY ?_ ?_,
      exec_cacheRead_of_code .gyrZ ?_ ?_⟩,
    fun h => ⟨exec_cacheRead_of_code .eulRoll ?_ ?_, exec_cacheRead_of_code .eulPitch ?_ ?_,
      exec_cacheRead_of_code .eulYaw ?_ ?_⟩,
    fun h => ⟨exec_cacheRead_of_code .quatW ?_ ?_, exec_cacheRead_of_code .quatX ?_ ?_,
      exec_cacheRead_of_code .quatY ?_ ?_, exec_cacheRead_of_code .quatZ ?_ ?_⟩⟩ <;>
    simp [cacheReads, State.code, h]

/-- Settles O35: the code delivered is the next free one, which fits the register. -/
theorem unwrittenCacheReadDeliversSomeCode : Obligations.UnwrittenCacheReadDeliversSomeCode := by
  unfold Obligations.UnwrittenCacheReadDeliversSomeCode
  exact fun s _ r hi hn =>
    ⟨freeCodeOf r s.draws, freeCodeOf_toNat_lt r s.draws, exec_cacheRead_of_code_none hi hn⟩

/-- Settles O49: one fact about a step for each thing it keeps. -/
theorem stepKeepsWiringAndLatch : Obligations.StepKeepsWiringAndLatch := by
  unfold Obligations.StepKeepsWiringAndLatch
  intro s t h
  exact ⟨step_params h, step_time h ▸ Nat.le_add_right _ _, sent_prefix_step h,
    step_latch_of_busy h⟩

/-- Settles O53: the tags by evaluation, the separation because the three registers can be read back
into the outcome. -/
theorem resultViewsFollowTags : Obligations.ResultViewsFollowTags := by
  unfold Obligations.ResultViewsFollowTags
  exact ⟨fun _ _ => ⟨rfl, rfl, rfl, rfl, rfl, rfl⟩, fun _ _ => OpResult.value_eq_some_iff,
    fun _ _ => OpResult.ackByte_eq_some_iff, fun _ _ => OpResult.eq_of_views,
    fun _ => OpResult.success_iff_tag, fun _ => ⟨fun _ => OpResult.sentinelView_value_iff,
      OpResult.sentinelView_timedOut_iff, OpResult.sentinelView_absent_iff⟩⟩

/-- Settles O59: both steps see the same host move and, after the turn, the same queue. -/
theorem takenFramesAreNeverSeen : Obligations.TakenFramesAreNeverSeen := by
  unfold Obligations.TakenFramesAreNeverSeen
  intro s t rest hs
  refine step_congr ?_ ?_
  · rw [State.afterTurn_of_script hs, State.afterTurn_of_script rfl]
    simp only [State.environment, queueAfter_drop_taken]
  · rw [State.nextTurn_of_script hs, State.nextTurn_of_script rfl]

end Sys2Proof.Proofs
end

section
/-! PROOFS of the family 20_memory: the byte order of the payload fields, which steps write the
identifiers and the cache, and the order of the frames in the receive queue. -/

namespace Sys2Proof

/-! ## Appended and masked bit vectors -/

/-- An append is the sum of its parts, the high part at its weight. -/
theorem toNat_append_eq_add {m n : Nat} (hi : BitVec m) (lo : BitVec n) :
    (hi ++ lo).toNat = 2 ^ n * hi.toNat + lo.toNat := by
  rw [BitVec.toNat_append, ← Nat.shiftLeft_add_eq_or_of_lt lo.isLt, Nat.shiftLeft_eq,
    Nat.mul_comm]

theorem or_or_or_reverse {w : Nat} (a b c e : BitVec w) :
    a ||| b ||| c ||| e = e ||| c ||| b ||| a := by
  ac_rfl

/-- A shift and a mask of `n` ones take the `n` bits from bit `k` on. -/
theorem setWidth_ushiftRight_and_allOnes {v w n : Nat} (x : BitVec v) (k : Nat) (h : v ≤ w) :
    x.setWidth w >>> k &&& (BitVec.allOnes n).setWidth w = (x.extractLsb' k n).setWidth w := by
  ext i hi
  have hin : (decide (k + i < w) && x.getLsbD (k + i)) = x.getLsbD (k + i) := by
    by_cases hki : k + i < w
    · simp [hki]
    · simp [BitVec.getLsbD_of_ge x (k + i) (by omega)]
  simp [hin, Bool.and_comm]

/-! ## The 16-bit fields and the data field (20_memory R61, R62) -/

theorem be16_eq_append (hi lo : Byte) : be16 hi lo = hi ++ lo := by
  rw [← BitVec.setWidth_eq (hi ++ lo), BitVec.setWidth_append_eq_shiftLeft_setWidth_or, be16]

/-- A 16-bit field is big-endian and unsigned. -/
theorem be16_toNat (hi lo : Byte) : (be16 hi lo).toNat = 2 ^ 8 * hi.toNat + lo.toNat := by
  rw [be16_eq_append, toNat_append_eq_add]

/-- The data field reads its bytes from D[7] down to D[4]. -/
theorem Payload.le32_eq_append (d : Payload) : d.le32 = d.d7 ++ d.d6 ++ d.d5 ++ d.d4 := by
  rw [← BitVec.setWidth_eq (d.d7 ++ d.d6 ++ d.d5 ++ d.d4), Payload.le32, or_or_or_reverse]
  simp only [BitVec.setWidth_append_append_append_eq_shiftLeft_setWidth_or, -Nat.reduceAdd]

/-- The data field is the little-endian sum of D[4] to D[7]. -/
theorem Payload.le32_toNat (d : Payload) : d.le32.toNat =
    d.d4.toNat + 2 ^ 8 * d.d5.toNat + 2 ^ 16 * d.d6.toNat + 2 ^ 24 * d.d7.toNat := by
  rw [Payload.le32_eq_append]
  simp only [toNat_append_eq_add, -Nat.reduceAdd]
  omega

/-- The four bytes of a value, put together again. -/
theorem wordByte_append (v : Word) :
    wordByte v 3 ++ wordByte v 2 ++ wordByte v 1 ++ wordByte v 0 = v := by
  simp only [wordByte]
  rw [BitVec.extractLsb'_append_extractLsb'_eq_extractLsb' (by decide),
    BitVec.extractLsb'_append_extractLsb'_eq_extractLsb' (by decide),
    BitVec.extractLsb'_append_extractLsb'_eq_extractLsb' (by decide)]
  exact BitVec.extractLsb'_eq_self

/-- The four bytes of the data field are D[4] to D[7]. -/
theorem wordByte_le32 (d : Payload) :
    wordByte d.le32 0 = d.d4 ∧ wordByte d.le32 1 = d.d5 ∧ wordByte d.le32 2 = d.d6 ∧
      wordByte d.le32 3 = d.d7 := by
  simp [wordByte, Payload.le32_eq_append, BitVec.extractLsb'_append_eq_ite, -Nat.reduceAdd]

theorem commandPayload_le32 (reg mode : Byte) (v : Word) :
    (commandPayload reg mode v).le32 = v := by
  rw [Payload.le32_eq_append]
  exact wordByte_append v

/-- A response carries its data as a command does (30_encoding R95). -/
theorem ackPayload_eq_commandPayload (reg ask : Byte) (v : Word) :
    ackPayload reg ask v = commandPayload reg ask v := rfl

/-! ## The quaternion fields (30_encoding R118) -/

/-- The payload word reads its bytes from D[0] to D[7] (00_scope R9). -/
theorem Payload.word_eq_append (d : Payload) :
    d.word = d.d0 ++ (d.d1 ++ d.d2 ++ d.d3 ++ d.d4 ++ d.d5 ++ d.d6 ++ d.d7) := by
  rw [← BitVec.setWidth_eq (d.d0 ++ (d.d1 ++ d.d2 ++ d.d3 ++ d.d4 ++ d.d5 ++ d.d6 ++ d.d7))]
  simp only [Payload.word, BitVec.setWidth_append_eq_shiftLeft_setWidth_or,
    BitVec.shiftLeft_or_distrib, ← BitVec.shiftLeft_add, BitVec.or_assoc, -Nat.reduceAdd]

theorem quatCodes_w (d : Payload) : (quatCodes d).w = d.d1 ++ d.d2.extractLsb' 2 6 := by
  rw [← BitVec.setWidth_eq (_ ++ _), BitVec.setWidth_append_eq_shiftLeft_setWidth_or,
    ← setWidth_ushiftRight_and_allOnes _ _ (by decide)]
  rfl

theorem quatCodes_x (d : Payload) :
    (quatCodes d).x = d.d2.extractLsb' 0 2 ++ d.d3 ++ d.d4.extractLsb' 4 4 := by
  rw [← BitVec.setWidth_eq (_ ++ _ ++ _), BitVec.setWidth_append_append_eq_shiftLeft_setWidth_or,
    ← setWidth_ushiftRight_and_allOnes d.d2 _ (by decide),
    ← setWidth_ushiftRight_and_allOnes d.d4 _ (by decide)]
  rfl

theorem quatCodes_y (d : Payload) :
    (quatCodes d).y = d.d4.extractLsb' 0 4 ++ d.d5 ++ d.d6.extractLsb' 6 2 := by
  rw [← BitVec.setWidth_eq (_ ++ _ ++ _), BitVec.setWidth_append_append_eq_shiftLeft_setWidth_or,
    ← setWidth_ushiftRight_and_allOnes d.d4 _ (by decide),
    ← setWidth_ushiftRight_and_allOnes d.d6 _ (by decide)]
  rfl

theorem quatCodes_z (d : Payload) : (quatCodes d).z = d.d6.extractLsb' 0 6 ++ d.d7 := by
  rw [← BitVec.setWidth_eq (_ ++ _), BitVec.setWidth_append_eq_shiftLeft_setWidth_or,
    ← setWidth_ushiftRight_and_allOnes _ _ (by decide)]
  rfl

/-- The four fields in the payload word: P[55:42], P[41:28], P[27:14], P[13:0] (20_memory R63). -/
theorem quatCodes_eq_extract_word (d : Payload) :
    (quatCodes d).w = d.word.extractLsb' 42 14 ∧ (quatCodes d).x = d.word.extractLsb' 28 14 ∧
      (quatCodes d).y = d.word.extractLsb' 14 14 ∧ (quatCodes d).z = d.word.extractLsb' 0 14 := by
  simp [quatCodes_w, quatCodes_x, quatCodes_y, quatCodes_z, Payload.word_eq_append,
    BitVec.extractLsb'_append_eq_ite, -Nat.reduceAdd]

/-- The low 56 bits of the payload word are the bytes D[1] to D[7]. -/
theorem extract_word_tail (d : Payload) :
    d.word.extractLsb' 0 (14 + 14 + 14 + 14) =
      d.d1 ++ d.d2 ++ d.d3 ++ d.d4 ++ d.d5 ++ d.d6 ++ d.d7 := by
  rw [Payload.word_eq_append]
  exact BitVec.extractLsb'_append_eq_right

end Sys2Proof

namespace Sys2Proof.Machine

/-! ## The cache and its groups -/

/-- The four cache groups (10_state R22), as one value. -/
def State.cache (s : State) :
    Option AccelCodes × Option GyroCodes × Option EulerCodes × Option QuatCodes :=
  (s.accel, s.gyro, s.euler, s.quat)

/-- A state with the cache of `s.withGroup k d` has every other group as in `s`. -/
theorem groups_of_cache_withGroup {s t : State} {k : Kind} {d : Payload}
    (h : t.cache = (s.withGroup k d).cache) :
    (k ≠ .accel → t.accel = s.accel) ∧ (k ≠ .gyro → t.gyro = s.gyro) ∧
      (k ≠ .euler → t.euler = s.euler) ∧ (k ≠ .quat → t.quat = s.quat) := by
  simp only [State.cache, State.withGroup, Prod.mk.injEq] at h
  obtain ⟨haccel, hgyro, heuler, hquat⟩ := h
  exact ⟨fun hk => by rw [haccel, if_neg hk], fun hk => by rw [hgyro, if_neg hk],
    fun hk => by rw [heuler, if_neg hk], fun hk => by rw [hquat, if_neg hk]⟩

theorem written_eq_of_cache {s t : State} (h : t.cache = s.cache) : t.written = s.written := by
  simp only [State.cache, Prod.mk.injEq] at h
  obtain ⟨haccel, hgyro, heuler, hquat⟩ := h
  funext k
  cases k <;> simp [State.written, *]

/-- Decoding into a group leaves every written group written (10_state R23). -/
theorem written_withGroup {s : State} {k' : Kind} (k : Kind) (d : Payload)
    (h : s.written k' = true) : (s.withGroup k d).written k' = true := by
  by_cases hk : k = k'
  · subst hk
    cases k <;> rfl
  · cases k' <;> simpa [State.written, State.withGroup, hk] using h

/-! ## The identifiers after WriteBack (40_protocol_engine R152) -/

theorem State.writeBack_slaveId (s : State) : s.writeBack.slaveId =
    if s.latch.opc = 0x17#6 then s.latch.value.setWidth 11 else s.slaveId := by
  rcases writeBack_cases s with ⟨h, e⟩ | ⟨h, -, e⟩ | ⟨h, -, e⟩ <;> simp [e, h]

theorem State.writeBack_masterId (s : State) : s.writeBack.masterId =
    if s.latch.opc = 0x15#6 ∧ s.params.mstWriteback = true then s.latch.value.setWidth 11
    else s.masterId := by
  rcases writeBack_cases s with ⟨h, e⟩ | ⟨h, hm, e⟩ | ⟨-, h, e⟩
  · simp [e, h]
  · simp [e, h, hm]
  · rw [e, if_neg h]

/-! ## What a step writes of the identifiers and the cache -/

/-- What a popped frame writes: it confirms an exchange, it is decoded in a wait or in DRAIN, or the
identifiers and the cache stay as they are. -/
theorem consume_writes_cases (r : Received) (s : State) :
    (s.phase = .waitAck ∧ ∃ value, s.consume r =
      s.writeBack.complete (.ok (if s.latch.kind = .read then value else 0))) ∨
    (∃ k d, s.phase = .waitTlm ∧ s.params.ridOf k = s.latch.reg ∧
      s.consume r = (s.withGroup k d).complete (.ok 0)) ∨
    (∃ k d, s.phase = .drain ∧ s.consume r = { s.withGroup k d with pollHit := true }) ∨
    ((s.consume r).masterId = s.masterId ∧ (s.consume r).slaveId = s.slaveId ∧
      (s.consume r).cache = s.cache) := by
  rcases consume_cases r s with ⟨reg, ask, value, -, e⟩ | ⟨k, d, -, e⟩ | ⟨-, e⟩ <;> rw [e]
  · rcases onAck_cases reg ask value s with ⟨hp, -, e⟩ | ⟨-, e⟩ <;> rw [e]
    · rcases ackComplete_cases ask value s with ⟨-, e⟩ | ⟨-, e⟩ <;> rw [e]
      · exact .inl ⟨hp, value, rfl⟩
      · exact .inr (.inr (.inr ⟨rfl, rfl, rfl⟩))
    · exact .inr (.inr (.inr ⟨rfl, rfl, rfl⟩))
  · rcases onTelemetry_cases (decodeTelemetry k d) s with ⟨hp, hreg, e⟩ | ⟨hp, e⟩ | ⟨-, -, e⟩ <;>
      rw [e]
    · rw [telemetryKind_decodeTelemetry] at hreg
      exact .inr (.inl ⟨k, d, hp, hreg, by rw [store_decodeTelemetry]⟩)
    · exact .inr (.inr (.inl ⟨k, d, hp, by rw [store_decodeTelemetry]⟩))
    · exact .inr (.inr (.inr ⟨rfl, rfl, rfl⟩))
  · exact .inr (.inr (.inr ⟨rfl, rfl, rfl⟩))

/-- Only a step that pops a frame writes an identifier or the cache. -/
theorem engineStep_pops_or_keeps (s : State) :
    (∃ r q, s.engineStep = State.consume r { s with rxQueue := q }) ∨
    (s.engineStep.masterId = s.masterId ∧ s.engineStep.slaveId = s.slaveId ∧
      s.engineStep.cache = s.cache) := by
  rcases engineStep_cases s with
    ⟨-, e⟩ | ⟨-, e⟩ | ⟨-, -, e⟩ | ⟨-, -, -, e⟩ | ⟨-, f, q, -, e⟩ | ⟨-, -, e⟩
  case inr.inl =>
    rcases sendCommand_cases s.latch.reg s.latch.mode s.latch.value s with
      ⟨-, e'⟩ | ⟨-, -, e'⟩ | ⟨-, -, e'⟩ | ⟨-, -, e'⟩ <;>
      exact .inr (by rw [e, e']; exact ⟨rfl, rfl, rfl⟩)
  case inr.inr.inr.inr.inl => exact .inl ⟨_, q, e⟩
  all_goals rw [e]; exact .inr ⟨rfl, rfl, rfl⟩

/-- Everything a step can write of the identifiers and the cache, with the whole next state: the
WriteBack of a confirmed exchange, the group of a READ_x that completes, a group in POLL, or nothing
(20_memory R77). -/
theorem step_writes_cases {s t : State} (h : step s = .next t) :
    (t.masterId = s.masterId ∧ t.slaveId = s.slaveId ∧ t.cache = s.cache) ∨
    ∃ u q, u = { s.afterTurn with rxQueue := q } ∧
      ((s.phase = .waitAck ∧ ∃ value,
        t = u.writeBack.complete (.ok (if s.latch.kind = .read then value else 0))) ∨
      (∃ k d, s.phase = .waitTlm ∧ s.params.ridOf k = s.latch.reg ∧
        t = (u.withGroup k d).complete (.ok 0)) ∨
      ∃ k d, s.phase = .drain ∧ t = { u.withGroup k d with pollHit := true }) := by
  have hturn : s.afterTurn.cache = s.cache := by simp [State.cache]
  rcases step_next_cases h with ⟨r, rfl⟩ | ⟨opc, tmo, prim, rfl⟩ | rfl | rfl
  · exact .inl (by simp [State.cache])
  · exact .inl (by simp [State.cache])
  · exact .inl (by simp [State.cache])
  rcases engineStep_pops_or_keeps s.afterTurn with ⟨r, q, e⟩ | ⟨hm, hs, hc⟩
  · rcases consume_writes_cases r { s.afterTurn with rxQueue := q } with
      ⟨hp, value, e'⟩ | ⟨k, d, hp, hreg, e'⟩ | ⟨k, d, hp, e'⟩ | ⟨hm, hs, hc⟩
    · exact .inr ⟨_, q, rfl, .inl ⟨by simpa using hp, value, by rw [e, e']; simp⟩⟩
    · exact .inr ⟨_, q, rfl, .inr (.inl
        ⟨k, d, by simpa using hp, by simpa using hreg, by rw [e, e']⟩)⟩
    · exact .inr ⟨_, q, rfl, .inr (.inr ⟨k, d, by simpa using hp, by rw [e, e']⟩)⟩
    · exact .inl ⟨by simpa [e] using hm, by simpa [e] using hs, e ▸ hc.trans hturn⟩
  · exact .inl ⟨by simpa using hm, by simpa using hs, hc.trans hturn⟩

/-- What a step can do to the cache: nothing, or one group is decoded, in POLL or at the completion of
a wait for that group's register. -/
theorem step_cache_cases {s t : State} (h : step s = .next t) :
    t.cache = s.cache ∨ ∃ k d, t.cache = (s.withGroup k d).cache ∧
      (s.phase = .drain ∧ t.pollHit = true ∨
        s.phase = .waitTlm ∧ s.params.ridOf k = s.latch.reg ∧ t.phase = .idle ∧
          t.result = .ok 0) := by
  rcases step_writes_cases h with ⟨-, -, hc⟩ |
    ⟨u, q, rfl, ⟨-, value, rfl⟩ | ⟨k, d, hp, hreg, rfl⟩ | ⟨k, d, hp, rfl⟩⟩
  · exact .inl hc
  · exact .inl (by simp [State.cache])
  · exact .inr ⟨k, d, by simp [State.cache, State.withGroup], .inr ⟨hp, hreg, rfl, rfl⟩⟩
  · exact .inr ⟨k, d, by simp [State.cache, State.withGroup], .inl ⟨hp, rfl⟩⟩

/-! ## Which operation the latch holds -/

/-- The kind that the issue step latches for a primitive (40_protocol_engine R131). -/
def kindOf : Primitive → ReqKind
  | .readRegister _ => .read
  | .writeRegister _ _ => .write
  | .requestTelemetry _ => .reqTlm
  | .readTelemetry _ => .readTlm
  | .poll => .poll

theorem kindOf_eq_poll_iff {prim : Primitive} : kindOf prim = .poll ↔ prim = .poll := by
  cases prim <;> simp [kindOf]

theorem kindOf_eq_readTlm_iff {prim : Primitive} :
    kindOf prim = .readTlm ↔ ∃ reg, prim = .readTelemetry reg := by
  cases prim <;> simp [kindOf]

/-- What a latch that holds an operation has of its row of 30_encoding R104. -/
theorem Latch.fields_of_holds {l : Latch} {opc : BitVec 6} {tmo : Word} {prim : Primitive}
    (h : l.holds opc tmo prim = true) :
    l.opc = opc ∧ l.kind = kindOf prim ∧ ∀ reg, prim = .readTelemetry reg → l.reg = reg := by
  cases prim with
  | poll =>
    simp only [Latch.holds, Bool.and_eq_true, beq_iff_eq] at h
    obtain ⟨⟨hopc, hkind⟩, -⟩ := h
    exact ⟨hopc, hkind, by simp⟩
  | _ =>
    obtain rfl := beq_iff_eq.mp h
    simp [kindOf]

/-- The row of the operation in progress, and what the latch has of it. -/
theorem State.row_of_running {s : State} {i : Instr} (h : s.running i = true) :
    ∃ tmo prim, operation s.params i = some (s.latch.opc, tmo, prim) ∧
      s.latch.kind = kindOf prim ∧ ∀ reg, prim = .readTelemetry reg → s.latch.reg = reg := by
  obtain ⟨opc, tmo, prim, hop, -, hholds⟩ := State.running_iff.mp h
  obtain ⟨rfl, hkind, hreg⟩ := Latch.fields_of_holds hholds
  exact ⟨tmo, prim, hop, hkind, hreg⟩

/-- The two identifier setters, OPC 0x15 and 0x17, are writes. -/
theorem kindOf_operation_of_identifier_opc {p : Params} {i : Instr} {opc : BitVec 6} {tmo : Word}
    {prim : Primitive} (h : operation p i = some (opc, tmo, prim))
    (hopc : opc = 0x15#6 ∨ opc = 0x17#6) : kindOf prim = .write := by
  cases i <;> simp only [operation, Option.some.injEq, Prod.mk.injEq, reduceCtorEq] at h <;>
    obtain ⟨rfl, -, rfl⟩ := h
  case setMasterId => rfl
  case setSlaveId => rfl
  all_goals exact absurd hopc (by decide)

theorem eq_poll_of_operation {p : Params} {i : Instr} {opc : BitVec 6} {tmo : Word}
    (h : operation p i = some (opc, tmo, .poll)) : i = .poll tmo := by
  cases i <;> simp_all [operation]

/-- Only the four READ_x run read_telemetry, each on the register of its kind. -/
theorem telemetryReads_of_operation {p : Params} {i : Instr} {opc : BitVec 6} {tmo : Word}
    {reg : Byte} (h : operation p i = some (opc, tmo, .readTelemetry reg)) :
    ∃ k, (i, k) ∈ telemetryReads tmo ∧ p.ridOf k = reg := by
  cases i <;> simp only [operation, Option.some.injEq, Prod.mk.injEq, Primitive.readTelemetry.injEq,
    reduceCtorEq, and_false] at h <;> obtain ⟨-, rfl, rfl⟩ := h
  case readAccel => exact ⟨.accel, by simp [telemetryReads], rfl⟩
  case readGyro => exact ⟨.gyro, by simp [telemetryReads], rfl⟩
  case readEuler => exact ⟨.euler, by simp [telemetryReads], rfl⟩
  case readQuat => exact ⟨.quat, by simp [telemetryReads], rfl⟩

/-- The four telemetry registers differ (00_scope R6). -/
theorem ridOf_injective {p : Params} (hp : p.wf) : Function.Injective p.ridOf := by
  have hsub : ([.accel, .gyro, .euler, .quat].map p.ridOf).Sublist p.slots :=
    (List.take_sublist 4 (p.slots.drop 1)).trans (List.drop_sublist 1 p.slots)
  obtain ⟨hslots, -⟩ := hp
  have hnodup := hslots.sublist hsub
  exact fun k k' h => List.inj_on_of_nodup_map hnodup (by cases k <;> simp) (by cases k' <;> simp) h

end Sys2Proof.Machine

namespace Sys2Proof.Proofs

open Sys2Proof Sys2Proof.Machine

/-- Settles O8: the data field is D[7] to D[4] appended, so its bytes are these and its value their
sum. -/
theorem dataFieldIsBijective : Obligations.DataFieldIsBijective := by
  unfold Obligations.DataFieldIsBijective
  refine ⟨Payload.le32_toNat, commandPayload_le32, fun reg ask v => ?_, fun d => ?_⟩
  · rw [ackPayload_eq_commandPayload, commandPayload_le32]
  · obtain ⟨h4, h5, h6, h7⟩ := wordByte_le32 d
    rw [commandPayload, h4, h5, h6, h7]
    rfl

/-- Settles O9: each field of the three kinds is a 16-bit field of the payload. -/
theorem sixteenBitFieldsAreBigEndian : Obligations.SixteenBitFieldsAreBigEndian := by
  unfold Obligations.SixteenBitFieldsAreBigEndian
  exact fun d => ⟨rfl, be16_toNat _ _, be16_toNat _ _, be16_toNat _ _, be16_toNat _ _,
    be16_toNat _ _, be16_toNat _ _, be16_toNat _ _, be16_toNat _ _, be16_toNat _ _⟩

/-- Settles O10: the fields are adjacent pieces of the payload word, which together are its low 56
bits. -/
theorem quaternionFieldsPartitionPayload : Obligations.QuaternionFieldsPartitionPayload := by
  unfold Obligations.QuaternionFieldsPartitionPayload
  intro d
  obtain ⟨hw, hx, hy, hz⟩ := quatCodes_eq_extract_word d
  refine ⟨hw, hx, hy, hz, ?_⟩
  rw [hw, hx, hy, hz, BitVec.extractLsb'_append_extractLsb'_eq_extractLsb' (by decide),
    BitVec.extractLsb'_append_extractLsb'_eq_extractLsb' (by decide),
    BitVec.extractLsb'_append_extractLsb'_eq_extractLsb' (by decide)]
  exact (extract_word_tail d).symm

/-- Settles O44: only WriteBack writes an identifier, and under the invariant the opcode it looks at is
that of a setter, a write, so that RESULT is OK(0). -/
theorem identifiersChangeOnlyOnConfirmedSet : Obligations.IdentifiersChangeOnlyOnConfirmedSet := by
  unfold Obligations.IdentifiersChangeOnlyOnConfirmedSet
  rintro s t ⟨-, hrun, -⟩ h
  rcases step_writes_cases h with ⟨hm, hs, -⟩ |
    ⟨u, q, rfl, ⟨hp, value, rfl⟩ | ⟨k, d, -, -, rfl⟩ | ⟨k, d, -, rfl⟩⟩
  case inr.inl =>
    obtain ⟨i, hi⟩ := hrun (by simp [hp])
    obtain ⟨tmo, prim, hop, hkind, -⟩ := State.row_of_running hi
    have hread (hopc : s.latch.opc = 0x15#6 ∨ s.latch.opc = 0x17#6) : s.latch.kind ≠ .read := by
      rw [hkind, kindOf_operation_of_identifier_opc hop hopc]
      decide
    have hid : s.latch.value.extractLsb 10 0 = s.latch.value.setWidth 11 :=
      (BitVec.setWidth_eq_extractLsb' (by decide)).symm
    constructor
    · intro hne
      have hopc : s.latch.opc = 0x17#6 := by
        by_contra hno
        exact hne (by simp [State.writeBack_slaveId, hno])
      exact ⟨hp, hopc, rfl, by simp [hread (.inr hopc)],
        by simp [State.writeBack_slaveId, hopc, hid], by simp [State.writeBack_masterId, hopc]⟩
    · intro hne
      obtain ⟨hopc, hmst⟩ : s.latch.opc = 0x15#6 ∧ s.params.mstWriteback = true := by
        by_contra hno
        exact hne (by simp [State.writeBack_masterId, hno])
      exact ⟨hp, hopc, hmst, rfl, by simp [hread (.inl hopc)],
        by simp [State.writeBack_masterId, hopc, hmst, hid],
        by simp [State.writeBack_slaveId, hopc]⟩
  case inl => exact ⟨fun hne => absurd hs hne, fun hne => absurd hm hne⟩
  all_goals
    exact ⟨fun hne => absurd (State.afterTurn_slaveId s) hne,
      fun hne => absurd (State.afterTurn_masterId s) hne⟩

/-- Settles O45: a step that writes the cache decodes into one group; under the invariant a POLL is in
progress, or the READ_x of that very group, since the telemetry registers differ. -/
theorem cacheChangesOnlyInPollOrRead : Obligations.CacheChangesOnlyInPollOrRead := by
  unfold Obligations.CacheChangesOnlyInPollOrRead
  rintro s t ⟨hwf, hrun, hfits⟩ h
  rcases step_cache_cases h with hsame | ⟨k, d, hgroup, hwhere⟩
  · obtain ⟨haccel, hgyro, heuler, hquat⟩ : t.accel = s.accel ∧ t.gyro = s.gyro ∧
        t.euler = s.euler ∧ t.quat = s.quat := by simpa [State.cache] using hsame
    exact ⟨.accel, fun _ => haccel, fun _ => hgyro, fun _ => heuler, fun _ => hquat,
      fun hne => absurd hsame hne, fun k' hk' => by rw [written_eq_of_cache hsame, hk']⟩
  obtain ⟨haccel, hgyro, heuler, hquat⟩ := groups_of_cache_withGroup hgroup
  refine ⟨k, haccel, hgyro, heuler, hquat, fun _ => ?_, fun k' hk' => ?_⟩
  · have hbusy : s.phase ≠ .idle := by
      rcases hwhere with ⟨hp, -⟩ | ⟨hp, -⟩ <;> simp [hp]
    obtain ⟨i, hi⟩ := hrun hbusy
    obtain ⟨tmo, prim, hop, hkind, hlatch⟩ := State.row_of_running hi
    rcases hwhere with ⟨hp, hhit⟩ | ⟨hp, hreg, hidle, hok⟩
    · have hpoll : s.latch.kind = .poll := by simpa [hp, phaseFits] using hfits
      obtain rfl := kindOf_eq_poll_iff.mp (hkind.symm.trans hpoll)
      obtain rfl := eq_poll_of_operation hop
      exact .inl ⟨hp, ⟨tmo, hi⟩, hhit⟩
    · have hread : s.latch.kind = .readTlm := by simpa [hp, phaseFits] using hfits
      obtain ⟨reg, rfl⟩ := kindOf_eq_readTlm_iff.mp (hkind.symm.trans hread)
      obtain ⟨k₁, hmem, hrid⟩ := telemetryReads_of_operation hop
      have hsame : s.params.ridOf k₁ = s.params.ridOf k := by rw [hrid, hreg, hlatch reg rfl]
      obtain rfl := ridOf_injective hwf hsame
      exact .inr ⟨hp, hidle, hok, tmo, i, hmem, hi⟩
  · rw [written_eq_of_cache hgroup]
    exact written_withGroup k d hk'

/-- Settles O60: the turn leaves frames that waited or arrived, the rest of the step only pops. -/
theorem framesSeenAreASubsequence : Obligations.FramesSeenAreASubsequence := by
  unfold Obligations.FramesSeenAreASubsequence
  intro s t h
  have hturn : s.afterTurn.rxQueue.Sublist (s.rxQueue ++ s.nextTurn.arrivals) := by
    rw [State.afterTurn_rxQueue]
    exact queueAfter_sublist _ _ _
  exact (step_rxQueue_suffix h).sublist.trans hturn

end Sys2Proof.Proofs
end

section
/-! PROOFS of the family 30_encoding: the round trips between words and instructions, the reserved
opcodes and refused arguments, the views of codes and values, and the frames that are sent. -/

namespace Sys2Proof

/-! ## Bytes and fields -/

theorem hiByte_be16 (hi lo : Byte) : hiByte (be16 hi lo) = hi := by
  rw [be16_eq_append, hiByte]
  exact BitVec.extractLsb'_append_eq_left

theorem loByte_be16 (hi lo : Byte) : loByte (be16 hi lo) = lo := by
  rw [be16_eq_append, loByte]
  exact BitVec.extractLsb'_append_eq_right

theorem be16_hiByte_loByte (v : BitVec 16) : be16 (hiByte v) (loByte v) = v := by
  rw [be16_eq_append, hiByte, loByte,
    BitVec.extractLsb'_append_extractLsb'_eq_extractLsb' (by decide)]
  exact BitVec.extractLsb'_eq_self

theorem Payload.ofWord_word (d : Payload) : Payload.ofWord d.word = d := by
  simp [Payload.ofWord, Payload.word_eq_append, BitVec.extractLsb'_append_eq_ite, -Nat.reduceAdd]

theorem Payload.word_ofWord (w : BitVec 64) : (Payload.ofWord w).word = w := by
  rw [Payload.word_eq_append]
  simp only [Payload.ofWord]
  iterate 7 rw [BitVec.extractLsb'_append_extractLsb'_eq_extractLsb' (by decide)]
  exact BitVec.extractLsb'_eq_self

/-! ## The payloads of 30_encoding R93 to R99, built and read -/

/-- A payload with both marks is the one that BuildCommand makes of its fields. -/
theorem commandPayload_of_marks {d : Payload} (h0 : d.d0 = Config.mark0)
    (h3 : d.d3 = Config.mark3) : commandPayload d.d1 d.d2 d.le32 = d := by
  obtain ⟨h4, h5, h6, h7⟩ := wordByte_le32 d
  rw [commandPayload, h4, h5, h6, h7, ← h0, ← h3]

theorem triplePayload_fields (d : Payload) :
    triplePayload d.d0 d.d1 (be16 d.d2 d.d3) (be16 d.d4 d.d5) (be16 d.d6 d.d7) = d := by
  simp only [triplePayload, hiByte_be16, loByte_be16]

theorem quatPayload_fields (d : Payload) :
    quatPayload d.d0 (quatCodes d).w (quatCodes d).x (quatCodes d).y (quatCodes d).z = d := by
  obtain ⟨-, -, -, -, hpart⟩ := Proofs.quaternionFieldsPartitionPayload d
  rw [quatPayload, ← hpart, ← Payload.word_eq_append, Payload.ofWord_word]

theorem quatPayload_word (rid : Byte) (w x y z : BitVec 14) :
    (quatPayload rid w x y z).word = rid ++ (w ++ x ++ y ++ z) :=
  Payload.word_ofWord _

theorem quatPayload_d0 (rid : Byte) (w x y z : BitVec 14) :
    (quatPayload rid w x y z).d0 = rid :=
  BitVec.extractLsb'_append_eq_left (a := rid) (b := w ++ x ++ y ++ z)

theorem quatCodes_quatPayload (rid : Byte) (w x y z : BitVec 14) :
    quatCodes (quatPayload rid w x y z) = ⟨w, x, y, z⟩ := by
  have hfields := quatCodes_eq_extract_word (quatPayload rid w x y z)
  rw [quatPayload_word] at hfields
  obtain ⟨hw, hx, hy, hz⟩ := hfields
  rw [QuatCodes.mk.injEq, hw, hx, hy, hz]
  simp [BitVec.extractLsb'_append_eq_ite, -Nat.reduceAdd]

/-! ## The register slots (30_encoding R101) -/

/-- The registers of the slots that some operation writes (10_state R37, 44_maintenance_ops R260). -/
def Params.writable (p : Params) : List Byte :=
  [p.ridReboot, p.ridZero, p.ridCalAccel, p.ridCalGyro, p.ridCalMag, p.ridComPort,
   p.ridActiveDelay, p.ridActiveMode, p.ridCanBaud, p.ridSlaveId, p.ridMasterId]

/-- The registers that no operation writes: the telemetry registers and the output selection
(44_maintenance_ops R268). -/
def Params.readOnly (p : Params) : List Byte :=
  [p.ridAccel, p.ridGyro, p.ridEuler, p.ridQuat, p.ridOutputSel]

/-- Every slot is written by some operation or by none. -/
theorem Params.slots_perm (p : Params) : p.slots.Perm (p.writable ++ p.readOnly) :=
  (List.perm_append_comm_assoc [p.ridAccel, p.ridGyro, p.ridEuler, p.ridQuat]
    [p.ridZero, p.ridCalAccel, p.ridCalGyro, p.ridCalMag, p.ridComPort, p.ridActiveDelay,
     p.ridActiveMode, p.ridCanBaud, p.ridSlaveId, p.ridMasterId] [p.ridOutputSel]).cons p.ridReboot

theorem Params.mem_slots_of_readOnly {p : Params} {r : Byte} (h : r ∈ p.readOnly) : r ∈ p.slots :=
  p.slots_perm.mem_iff.mpr (List.mem_append_right _ h)

theorem Params.ridOf_mem_readOnly (p : Params) (k : Kind) : p.ridOf k ∈ p.readOnly := by
  cases k <;> simp [Params.ridOf, Params.readOnly]

theorem Params.readable_subset_slots (p : Params) : p.readable ⊆ p.slots := by
  simp [Params.readable, Params.slots]

/-- The ids of the slots are below 16, so RID_SAVE, RID_RESTORE and the marks are none of them (00_scope
R6). -/
theorem Params.ne_of_mem_slots {p : Params} (hp : p.wf) {r r' : Byte} (hr : r ∈ p.slots)
    (hr' : ¬ r' < 16#8) : r ≠ r' := by
  obtain ⟨-, hlt, -⟩ := hp
  rintro rfl
  exact hr' (hlt r hr)

theorem Params.eq_ridSave_or_mem_writable {p : Params} {reg : Byte} {value : Word}
    (h : p.writes reg value = true) : reg = Config.ridSave ∨ reg ∈ p.writable := by
  simp only [Params.writes, Bool.or_eq_true, Bool.and_eq_true, beq_iff_eq] at h
  simp only [Params.writable, List.mem_cons]
  tauto

theorem Params.writes_readOnly {p : Params} (hp : p.wf) {reg : Byte} (hreg : reg ∈ p.readOnly)
    (value : Word) : p.writes reg value = false := by
  rw [Bool.eq_false_iff]
  intro hw
  rcases Params.eq_ridSave_or_mem_writable hw with hsave | hmem
  · exact Params.ne_of_mem_slots hp (Params.mem_slots_of_readOnly hreg) (by decide) hsave
  · obtain ⟨hslots, -⟩ := hp
    exact List.disjoint_of_nodup_append (p.slots_perm.nodup_iff.mp hslots) hmem hreg

theorem Params.writes_ridRestore {p : Params} (hp : p.wf) (value : Word) :
    p.writes Config.ridRestore value = false := by
  rw [Bool.eq_false_iff]
  intro hw
  rcases Params.eq_ridSave_or_mem_writable hw with hsave | hmem
  · exact absurd hsave (by decide)
  · exact Params.ne_of_mem_slots hp (p.slots_perm.mem_iff.mpr (List.mem_append_left _ hmem))
      (by decide) rfl

/-! ## Frames going out -/

theorem decodeSend_read (reg : Byte) :
    decodeSend (commandPayload reg Config.modeRead 0) = .ok (.cmdRead reg) := by
  rw [decodeSend, commandPayload_le32]
  rfl

theorem decodeSend_write (reg : Byte) (value : Word) :
    decodeSend (commandPayload reg Config.modeWrite value) = .ok (.cmdWrite reg value) := by
  rw [decodeSend, commandPayload_le32]
  rfl

/-- A payload going out that decodes is a CMD.READ or a CMD.WRITE, with the payload that BuildCommand
makes (30_encoding R93, R94). -/
theorem decodeSend_cases {d : Payload} {i : Instr} (h : decodeSend d = .ok i) :
    (i = .cmdRead d.d1 ∧ d = commandPayload d.d1 Config.modeRead 0) ∨
    (i = .cmdWrite d.d1 d.le32 ∧ d = commandPayload d.d1 Config.modeWrite d.le32) := by
  unfold decodeSend at h
  split at h
  case isFalse => cases h
  case isTrue hmarks =>
    obtain ⟨h0, h3⟩ := hmarks
    have hd := commandPayload_of_marks h0 h3
    split at h
    case isTrue hread =>
      obtain ⟨hmode, hdata⟩ := hread
      rw [hmode, hdata] at hd
      exact .inl ⟨(Except.ok.inj h).symm, hd.symm⟩
    case isFalse =>
      split at h
      case isTrue hmode =>
        rw [hmode] at hd
        exact .inr ⟨(Except.ok.inj h).symm, hd.symm⟩
      case isFalse => cases h

/-! ## Frames coming in -/

/-- The first byte of a telemetry frame tells its kind: it is no mark, and the four telemetry ids
differ (00_scope R6). -/
theorem classifyPayload_of_ridOf {p : Params} (hp : p.wf) {d : Payload} {k : Kind}
    (hd : d.d0 = p.ridOf k) : classifyPayload p d = .telemetry k d := by
  rcases Machine.classifyPayload_cases p d with ⟨⟨h0, -⟩, -⟩ | ⟨-, k', hk', e⟩ | ⟨-, hnone, -⟩
  · exact absurd (hd.symm.trans h0) (Params.ne_of_mem_slots hp
      (Params.mem_slots_of_readOnly (p.ridOf_mem_readOnly k)) (by decide))
  · obtain rfl := Machine.ridOf_injective hp (hd.symm.trans hk')
    exact e
  · exact absurd hd (hnone k)

/-- The instruction of a telemetry frame of kind `k` that carries the payload `d` (30_encoding R96 to
R99). -/
def Payload.telemetryInstr (d : Payload) : Kind → Instr
  | .accel => .tlmAccel d.d1 (be16 d.d2 d.d3) (be16 d.d4 d.d5) (be16 d.d6 d.d7)
  | .gyro => .tlmGyro d.d1 (be16 d.d2 d.d3) (be16 d.d4 d.d5) (be16 d.d6 d.d7)
  | .euler => .tlmEuler d.d1 (be16 d.d2 d.d3) (be16 d.d4 d.d5) (be16 d.d6 d.d7)
  | .quat => .tlmQuat (quatCodes d).w (quatCodes d).x (quatCodes d).y (quatCodes d).z

theorem decodeReceive_of_telemetry {p : Params} {d : Payload} {k : Kind}
    (h : classifyPayload p d = .telemetry k d) :
    decodeReceive p d = .ok (d.telemetryInstr k) := by
  rw [decodeReceive, h]
  cases k <;> rfl

theorem decodeReceive_ack (p : Params) (reg ask : Byte) (value : Word) :
    decodeReceive p (ackPayload reg ask value) = .ok (.ack reg ask value) := by
  rw [decodeReceive, classifyPayload, if_pos ⟨rfl, rfl⟩, ackPayload_eq_commandPayload,
    commandPayload_le32]
  rfl

theorem telemetryInstr_accel (rid temp : Byte) (x y z : BitVec 16) :
    (triplePayload rid temp x y z).telemetryInstr .accel = .tlmAccel temp x y z := by
  simp only [Payload.telemetryInstr, triplePayload, be16_hiByte_loByte]

theorem telemetryInstr_gyro (rid unused : Byte) (x y z : BitVec 16) :
    (triplePayload rid unused x y z).telemetryInstr .gyro = .tlmGyro unused x y z := by
  simp only [Payload.telemetryInstr, triplePayload, be16_hiByte_loByte]

theorem telemetryInstr_euler (rid unused : Byte) (pitch yaw roll : BitVec 16) :
    (triplePayload rid unused pitch yaw roll).telemetryInstr .euler =
      .tlmEuler unused pitch yaw roll := by
  simp only [Payload.telemetryInstr, triplePayload, be16_hiByte_loByte]

theorem telemetryInstr_quat (rid : Byte) (w x y z : BitVec 14) :
    (quatPayload rid w x y z).telemetryInstr .quat = .tlmQuat w x y z := by
  rw [Payload.telemetryInstr, quatCodes_quatPayload]

/-- A payload coming in that decodes is an ACK or telemetry of one of the four kinds (30_encoding R95 to
R100). -/
theorem decodeReceive_cases {p : Params} {d : Payload} {i : Instr} (h : decodeReceive p d = .ok i) :
    (i = .ack d.d1 d.d2 d.le32 ∧ d = ackPayload d.d1 d.d2 d.le32) ∨
    ∃ k, d.d0 = p.ridOf k ∧ i = d.telemetryInstr k := by
  rcases Machine.classifyPayload_cases p d with ⟨⟨h0, h3⟩, e⟩ | ⟨-, k, hk, e⟩ | ⟨-, -, e⟩
  · rw [decodeReceive, e] at h
    exact .inl ⟨(Except.ok.inj h).symm, (commandPayload_of_marks h0 h3).symm⟩
  · rw [decodeReceive_of_telemetry e] at h
    exact .inr ⟨k, hk, (Except.ok.inj h).symm⟩
  · rw [decodeReceive, e] at h
    cases h

theorem encode_telemetryInstr {p : Params} {d : Payload} {k : Kind} (hd : d.d0 = p.ridOf k) :
    encode p (d.telemetryInstr k) = .receivePayload d := by
  have hquat := quatPayload_fields d
  have htriple := triplePayload_fields d
  rw [hd] at hquat htriple
  cases k
  case quat => exact congrArg PortWord.receivePayload hquat
  all_goals exact congrArg PortWord.receivePayload htriple

/-! ## The host port and the cache port -/

/-- A host command that decodes is the encoding of its instruction, but for an ARG that the operation
ignores; the six setters keep ARG (30_encoding R104). -/
theorem encode_of_decodeHost (p : Params) {c : HostCmd} {i : Instr} (h : decodeHost c = .ok i) :
    ∃ arg, encode p i = .hostCommand { c with arg := arg } ∧
      (c.opc ∈ [0x11#6, 0x13#6, 0x15#6, 0x17#6, 0x19#6, 0x1B#6] → arg = c.arg) := by
  obtain ⟨opc, arg, tmo⟩ := c
  have hopc : BitVec.ofNat 6 opc.toNat = opc := by simp
  unfold decodeHost at h
  split at h <;> cases h
  all_goals
    rename_i hn
    rw [hn] at hopc
    subst hopc
    exact ⟨_, rfl, by simp⟩

theorem encode_of_decodeCache (p : Params) {a : BitVec 4} {i : Instr} (h : decodeCache a = .ok i) :
    encode p i = .cacheAddress a := by
  have ha : BitVec.ofNat 4 a.toNat = a := by simp
  unfold decodeCache at h
  split at h <;> cases h
  all_goals
    rename_i hn
    rw [← ha, hn]
    rfl

/-- The reserved opcodes (30_encoding R104, R111). -/
def isReservedOpcode (opc : BitVec 6) : Prop :=
  (0x09 ≤ opc.toNat ∧ opc.toNat ≤ 0x0F) ∨ (0x1D ≤ opc.toNat ∧ opc.toNat ≤ 0x1F) ∨ 0x26 ≤ opc.toNat

/-- Exactly the commands with an opcode that is not reserved decode. -/
theorem exists_decodeHost_iff (c : HostCmd) :
    (∃ i, decodeHost c = .ok i) ↔ ¬ isReservedOpcode c.opc := by
  unfold isReservedOpcode decodeHost
  split
  case h_29 =>
    simp only [reduceCtorEq, exists_false, false_iff, not_not, imp_false] at *
    omega
  all_goals
    rename_i hn
    rw [hn]
    exact ⟨fun _ => by decide, fun _ => ⟨_, rfl⟩⟩

end Sys2Proof

namespace Sys2Proof.Machine

/-! ## Refused commands (30_encoding R111) -/

/-- An idle engine that is presented a command which does not decode completes REFUSED. -/
theorem step_of_undecodable {s : State} {c : HostCmd} (hc : s.nextTurn.host = .command c)
    (hp : s.phase = .idle) (hd : ¬ ∃ i, decodeHost c = .ok i) :
    step s = .next s.afterTurn.refuse := by
  cases h : decodeHost c with
  | ok i => exact absurd ⟨i, h⟩ hd
  | error e => simp [step, hc, hp, decode, h]

/-- An idle engine that is given an ill-formed operation completes REFUSED. -/
theorem exec_of_illFormed {s : State} {i : Instr} {row : BitVec 6 × Word × Primitive}
    (hp : s.phase = .idle) (hrow : operation s.params i = some row)
    (hill : wellFormed s.params i = false) : exec i s = .next s.refuse := by
  rw [exec_operation hrow, hill]
  rcases hostOp_cases row.1 row.2.1 row.2.2 false s with
    ⟨-, h, -⟩ | ⟨-, -, e⟩ | ⟨hn, -⟩ | ⟨hn, -⟩
  · cases h
  · exact e
  · exact absurd hp hn
  · exact absurd hp hn

/-! ## The enumerated views (30_encoding R107, R108)

A view is the entry at the place of the code in its list, and UNKNOWN past the end; distinct codes stand
each at its own place. -/

/-- The views of the ack codes, in the order of `Params.acks`. -/
def ackReasons : List AckReason :=
  [.success, .registerNotExist, .invalidData, .operationFailed]

/-- The views of the COM port codes, in the order of `Params.coms`. -/
def comPorts : List ComPort :=
  [.usb, .rs485, .can, .vofa]

/-- The views of the baud codes, in the order of `Params.bauds`. -/
def baudRates : List Baud :=
  [.r1M, .r500K, .r400K, .r250K, .r200K, .r100K, .r50K, .r25K]

theorem ackReason_eq_getD (p : Params) (a : Byte) :
    ackReason p a = ackReasons.getD (p.acks.idxOf a) (.unknown a) := by
  simp only [ackReason, Params.acks, List.idxOf_cons, beq_iff_eq, cond_eq_ite, eq_comm (a := a)]
  split_ifs <;> rfl

theorem comPort_eq_getD (p : Params) (v : Word) :
    comPort p v = comPorts.getD (p.coms.idxOf v) (.unknown v) := by
  simp only [comPort, Params.coms, List.idxOf_cons, beq_iff_eq, cond_eq_ite, eq_comm (a := v)]
  split_ifs <;> rfl

theorem baud_eq_getD (p : Params) (v : Word) :
    baud p v = baudRates.getD (p.bauds.idxOf v) (.unknown v) := by
  simp only [baud, Params.bauds, List.idxOf_cons, beq_iff_eq, cond_eq_ite, eq_comm (a := v)]
  split_ifs <;> rfl

theorem ackReason_getElem {p : Params} (h : p.acks.Nodup) (n : Fin 4) :
    ackReason p p.acks[n] = ackReasons[n] := by
  rw [ackReason_eq_getD, Fin.getElem_fin, h.idxOf_getElem, List.getD_eq_getElem _ _ n.isLt]
  rfl

theorem comPort_getElem {p : Params} (h : p.coms.Nodup) (n : Fin 4) :
    comPort p p.coms[n] = comPorts[n] := by
  rw [comPort_eq_getD, Fin.getElem_fin, h.idxOf_getElem, List.getD_eq_getElem _ _ n.isLt]
  rfl

theorem baud_getElem {p : Params} (h : p.bauds.Nodup) (n : Fin 8) :
    baud p p.bauds[n] = baudRates[n] := by
  rw [baud_eq_getD, Fin.getElem_fin, h.idxOf_getElem, List.getD_eq_getElem _ _ n.isLt]
  rfl

theorem ackReason_of_notMem {p : Params} {a : Byte} (h : a ∉ p.acks) :
    ackReason p a = .unknown a := by
  rw [ackReason_eq_getD, List.idxOf_of_notMem h]
  rfl

theorem comPort_of_notMem {p : Params} {v : Word} (h : v ∉ p.coms) :
    comPort p v = .unknown v := by
  rw [comPort_eq_getD, List.idxOf_of_notMem h]
  rfl

theorem baud_of_notMem {p : Params} {v : Word} (h : v ∉ p.bauds) : baud p v = .unknown v := by
  rw [baud_eq_getD, List.idxOf_of_notMem h]
  rfl

/-! ## The other views (30_encoding R109) -/

theorem isIdentifier_iff {v : Word} : isIdentifier v = true ↔ v.toNat ≤ 0x7FF := by
  simp [isIdentifier, BitVec.le_def]

theorem activeModeView_iff {v : Word} : activeModeView v = true ↔ v.toNat ≠ 0 := by
  simp [activeModeView, BitVec.toNat_eq]

/-! ## The frames that are sent (30_encoding R110) -/

/-- The command frame that a primitive sends (40_protocol_engine R131, R132); POLL sends none. -/
def commandOf : Primitive → Option Instr
  | .readRegister reg | .requestTelemetry reg | .readTelemetry reg => some (.cmdRead reg)
  | .writeRegister reg value => some (.cmdWrite reg value)
  | .poll => none

theorem exists_commandOf {prim : Primitive} (h : kindOf prim ≠ .poll) :
    ∃ j, commandOf prim = some j := by
  cases prim <;> simp_all [commandOf, kindOf]

/-- What the latch of an operation sends decodes to the command of its primitive. -/
theorem decodeSend_of_holds {l : Latch} {opc : BitVec 6} {tmo : Word} {prim : Primitive} {j : Instr}
    (h : l.holds opc tmo prim = true) (hj : commandOf prim = some j) :
    decodeSend (commandPayload l.reg l.mode l.value) = .ok j := by
  cases prim with
  | poll => cases hj
  | writeRegister reg value =>
    cases hj
    rw [beq_iff_eq.mp h]
    exact decodeSend_write reg value
  | readRegister reg | requestTelemetry reg | readTelemetry reg =>
    cases hj
    rw [beq_iff_eq.mp h]
    exact decodeSend_read reg

/-- The command of a well-formed operation is well formed: a read is of a register that some operation
reads, a write is of a value in the setter's domain or of the trigger's own value. -/
theorem wellFormed_commandOf {p : Params} {i j : Instr} {opc : BitVec 6} {tmo : Word}
    {prim : Primitive} (h : operation p i = some (opc, tmo, prim)) (hwf : wellFormed p i = true)
    (hj : commandOf prim = some j) : wellFormed p j = true := by
  cases i <;> simp only [operation, Option.some.injEq, Prod.mk.injEq, reduceCtorEq] at h
  all_goals
    obtain ⟨-, -, rfl⟩ := h
    cases hj
  all_goals simp_all [wellFormed, Params.readable, Params.writes]

/-- The latch of an operation in progress, other than POLL, holds a well-formed command. -/
theorem command_of_running {s : State} {i : Instr} (hi : s.running i = true)
    (hk : s.latch.kind ≠ .poll) :
    ∃ j, decodeSend (commandPayload s.latch.reg s.latch.mode s.latch.value) = .ok j ∧
      wellFormed s.params j = true := by
  obtain ⟨opc, tmo, prim, hop, hwf, hholds⟩ := State.running_iff.mp hi
  obtain ⟨-, hkind, -⟩ := Latch.fields_of_holds hholds
  obtain ⟨j, hj⟩ := exists_commandOf (hkind ▸ hk)
  exact ⟨j, decodeSend_of_holds hholds hj, wellFormed_commandOf hop hwf hj⟩

/-- Only the transmit step sends: one frame, built of the latch for the slave identifier
(40_protocol_engine R133). -/
theorem engineStep_sent_cases (s : State) :
    s.engineStep.sent = s.sent ∨
    s.phase = .tx ∧ s.engineStep.sent =
      s.sent ++ [buildCommand s.slaveId s.latch.reg s.latch.mode s.latch.value] := by
  rcases engineStep_cases s with
    ⟨-, e⟩ | ⟨hp, e⟩ | ⟨-, -, e⟩ | ⟨-, -, -, e⟩ | ⟨-, f, q, -, e⟩ | ⟨-, -, e⟩ <;> rw [e]
  case inr.inl => exact .inr ⟨hp, State.sendCommand_sent _ _ _ _⟩
  all_goals simp

theorem step_sent_cases {s t : State} (h : step s = .next t) :
    t.sent = s.sent ∨
    s.phase = .tx ∧
      t.sent = s.sent ++ [buildCommand s.slaveId s.latch.reg s.latch.mode s.latch.value] := by
  rcases step_next_cases h with ⟨r, rfl⟩ | ⟨opc, tmo, prim, rfl⟩ | rfl | rfl
  · simp
  · simp
  · simp
  · simpa using engineStep_sent_cases s.afterTurn

end Sys2Proof.Machine

namespace Sys2Proof.Proofs

open Sys2Proof Sys2Proof.Machine

/-- Settles O4: a command and a response by their marks, telemetry by the first byte, which tells the
kind; at the two host ports the word names the opcode or the address. -/
theorem decodeEncodeRoundTrip : Obligations.DecodeEncodeRoundTrip := by
  unfold Obligations.DecodeEncodeRoundTrip
  intro p i hp
  have htlm {d : Payload} (k : Kind) (hd : d.d0 = p.ridOf k) :
      decode p (.receivePayload d) = .ok (d.telemetryInstr k) :=
    decodeReceive_of_telemetry (classifyPayload_of_ridOf hp hd)
  cases i
  case cmdRead reg => exact decodeSend_read reg
  case cmdWrite reg value => exact decodeSend_write reg value
  case ack reg ask value => exact decodeReceive_ack p reg ask value
  case tlmAccel temp x y z => rw [encode, htlm .accel rfl, telemetryInstr_accel]
  case tlmGyro unused x y z => rw [encode, htlm .gyro rfl, telemetryInstr_gyro]
  case tlmEuler unused pitch yaw roll => rw [encode, htlm .euler rfl, telemetryInstr_euler]
  case tlmQuat w x y z =>
    rw [encode, htlm .quat (quatPayload_d0 p.ridQuat w x y z), telemetryInstr_quat]
  all_goals rfl

/-- Settles O5: port by port, a word that decodes is built again from the fields that its instruction
took from it. -/
theorem encodeDecodeRoundTrip : Obligations.EncodeDecodeRoundTrip := by
  unfold Obligations.EncodeDecodeRoundTrip
  intro p w i h
  cases w with
  | hostCommand c =>
    obtain ⟨arg, henc, hsetter⟩ := encode_of_decodeHost p h
    exact .inr ⟨c, arg, rfl, henc, hsetter⟩
  | cacheAddress a => exact .inl ⟨nofun, encode_of_decodeCache p h⟩
  | sendPayload d =>
    refine .inl ⟨nofun, ?_⟩
    rcases decodeSend_cases h with ⟨rfl, hd⟩ | ⟨rfl, hd⟩ <;>
      exact congrArg PortWord.sendPayload hd.symm
  | receivePayload d =>
    refine .inl ⟨nofun, ?_⟩
    rcases decodeReceive_cases h with ⟨rfl, hd⟩ | ⟨k, hk, rfl⟩
    · exact congrArg PortWord.receivePayload hd.symm
    · exact encode_telemetryInstr hk

/-- Settles O42: a step adds at most the frame that the latch holds, which under the invariant is the
command of a well-formed operation; what no operation writes follows from the ids being distinct and
below 16. -/
theorem everySentFrameIsACommand : Obligations.EverySentFrameIsACommand := by
  unfold Obligations.EverySentFrameIsACommand
  refine ⟨fun s t hinv h hsent => ?_, fun p v hp => ⟨?_, Params.writes_ridRestore hp v,
    Params.writes_readOnly hp (by simp [Params.readOnly]) v,
    fun k => Params.writes_readOnly hp (p.ridOf_mem_readOnly k) v⟩⟩
  · obtain ⟨-, hrun, hfits⟩ := hinv
    rw [step_params h]
    rcases step_sent_cases h with hsame | ⟨hp, hnew⟩
    · rwa [hsame]
    · obtain ⟨i, hi⟩ := hrun (by simp [hp])
      obtain ⟨j, hdec, hwf⟩ := command_of_running hi (by simpa [hp, phaseFits] using hfits)
      rw [hnew]
      intro f hf
      rcases List.mem_append.mp hf with hold | hlast
      · exact hsent f hold
      · obtain rfl := List.mem_singleton.mp hlast
        exact ⟨_, j, rfl, hdec, hwf⟩
  · have hno : 0xFF#8 ∉ p.readable := fun hmem =>
      Params.ne_of_mem_slots hp (p.readable_subset_slots hmem) (by decide) rfl
    simpa [wellFormed] using hno

/-- Settles O6: the decoder by its rows; a command that does not decode is refused. -/
theorem reservedOpcodesAreRefused : Obligations.ReservedOpcodesAreRefused := by
  unfold Obligations.ReservedOpcodesAreRefused
  exact ⟨fun c => (not_congr (exists_decodeHost_iff c)).trans not_not,
    fun _ _ => step_of_undecodable⟩

/-- Settles O15: an ARG outside its domain makes the setter ill-formed, and a reserved opcode does not
decode. -/
theorem outOfDomainArgumentIsRefused : Obligations.OutOfDomainArgumentIsRefused := by
  unfold Obligations.OutOfDomainArgumentIsRefused
  intro s arg tmo hp
  refine ⟨fun h => exec_of_illFormed hp rfl ?comPort, fun h => exec_of_illFormed hp rfl ?canBaud,
    fun h => ⟨exec_of_illFormed hp rfl ?masterId, exec_of_illFormed hp rfl ?slaveId⟩,
    fun h => exec_of_illFormed hp rfl ?activeMode, fun h => exec_of_illFormed hp rfl ?activeDelay,
    fun c hc h => step_of_undecodable hc hp ?reserved⟩
  case reserved => exact fun hok => (exists_decodeHost_iff c).mp hok h
  case comPort => simpa [wellFormed, Params.coms] using h
  case canBaud => simpa [wellFormed, Params.bauds] using h
  all_goals
    simp only [wellFormed, decide_eq_false_iff_not, BitVec.le_def, BitVec.toNat_ofNat]
    omega

/-- Settles O39: the codes being distinct, each finds its own view. -/
theorem ackReasonsAreTotal : Obligations.AckReasonsAreTotal := by
  unfold Obligations.AckReasonsAreTotal
  rintro p ⟨-, -, hacks, -, -⟩
  have hview := ackReason_getElem hacks
  exact ⟨hview 0, hview 1, hview 2, hview 3, fun _ => ackReason_of_notMem⟩

/-- Settles O40: the codes being distinct, each finds its own view. -/
theorem enumeratedViewsAreTotal : Obligations.EnumeratedViewsAreTotal := by
  unfold Obligations.EnumeratedViewsAreTotal
  rintro p ⟨-, -, -, hcoms, hbauds⟩
  have hcom := comPort_getElem hcoms
  have hbaud := baud_getElem hbauds
  exact ⟨hcom 0, hcom 1, hcom 2, hcom 3, fun _ => comPort_of_notMem, hbaud 0, hbaud 1, hbaud 2,
    hbaud 3, hbaud 4, hbaud 5, hbaud 6, hbaud 7, fun _ => baud_of_notMem⟩

/-- Settles O3: eight closed words, by evaluation of the decoder. -/
theorem specWordsDecode : Obligations.SpecWordsDecode := by
  unfold Obligations.SpecWordsDecode
  decide

/-- Settles O54: each view by its comparison, read in numbers. -/
theorem valueViewsFollowTypes : Obligations.ValueViewsFollowTypes := by
  unfold Obligations.ValueViewsFollowTypes
  exact fun _ => ⟨isIdentifier_iff, activeModeView_iff, rfl⟩

end Sys2Proof.Proofs
end

section
/-! PROOFS of the family 40_protocol_engine: the issue, transmit, wait and drain steps, the table of
transitions, and whole runs of several steps. -/

namespace Sys2Proof

/-- A received frame of one of the four telemetry classes (30_encoding R100). -/
def Received.isTelemetry : Received → Bool
  | .telemetry _ _ => true
  | .foreign | .short | .ack _ _ _ | .other => false

end Sys2Proof

namespace Sys2Proof.Machine

/-! ## What the latch of an operation holds -/

/-- But for the free fields of a POLL, a latch holds an operation exactly when it is what the issue
step latches for it (40_protocol_engine R131). -/
theorem Latch.holds_iff_eq_expand {l : Latch} {opc : BitVec 6} {tmo : Word} {prim : Primitive}
    (hprim : prim ≠ .poll) (n : Nat) :
    l.holds opc tmo prim = true ↔ l = expand opc tmo n prim := by
  cases prim with
  | poll => exact absurd rfl hprim
  | _ => exact beq_iff_eq

theorem Latch.holds_poll_iff {l : Latch} {opc : BitVec 6} {tmo : Word} :
    l.holds opc tmo .poll = true ↔ l.opc = opc ∧ l.kind = .poll ∧ l.tmo = tmo := by
  simp [Latch.holds, and_assoc]

theorem Latch.holds_expand (opc : BitVec 6) (tmo : Word) (n : Nat) (prim : Primitive) :
    (expand opc tmo n prim).holds opc tmo prim = true := by
  cases prim with
  | poll => exact Latch.holds_poll_iff.mpr ⟨rfl, rfl, rfl⟩
  | _ => exact beq_iff_eq.mpr rfl

@[simp] theorem expand_kind (opc : BitVec 6) (tmo : Word) (n : Nat) (prim : Primitive) :
    (expand opc tmo n prim).kind = kindOf prim := by
  cases prim <;> rfl

/-- The latch of an operation in progress is what its row of 30_encoding R104 expands to. -/
theorem State.latch_of_running {s : State} {i : Instr} {opc : BitVec 6} {tmo : Word}
    {prim : Primitive} (hi : s.running i = true)
    (hop : operation s.params i = some (opc, tmo, prim)) (hprim : prim ≠ .poll) :
    s.latch = expand opc tmo s.draws prim := by
  obtain ⟨opc', tmo', prim', hop', -, hholds⟩ := State.running_iff.mp hi
  rw [hop, Option.some.injEq, Prod.mk.injEq, Prod.mk.injEq] at hop'
  obtain ⟨rfl, rfl, rfl⟩ := hop'
  exact (Latch.holds_iff_eq_expand hprim _).mp hholds

/-! ## The rows of the lists of operations -/

theorem operation_of_mem_requests (p : Params) (tmo : Word) :
    ∀ e ∈ requests tmo, ∃ opc,
      operation p e.1 = some (opc, tmo, .requestTelemetry (p.ridOf e.2)) := by
  simp [requests, operation, Params.ridOf]

theorem operation_of_mem_telemetryReads (p : Params) (tmo : Word) :
    ∀ e ∈ telemetryReads tmo, ∃ opc,
      operation p e.1 = some (opc, tmo, .readTelemetry (p.ridOf e.2)) := by
  simp [telemetryReads, operation, Params.ridOf]

/-- The getters have the opcode of neither identifier setter. -/
theorem operation_of_mem_getters (p : Params) (tmo : Word) :
    ∀ e ∈ getters p tmo, ∃ opc, operation p e.1 = some (opc, tmo, .readRegister e.2) ∧
      opc ≠ 0x15#6 ∧ opc ≠ 0x17#6 := by
  simp [getters, operation]

theorem wellFormed_of_mem_getters (p : Params) (tmo : Word) :
    ∀ e ∈ getters p tmo, wellFormed p e.1 = true := by
  simp [getters, wellFormed]

/-- The plain setters and the triggers have the opcode of neither identifier setter. -/
theorem operation_of_mem_plainWrites (p : Params) (arg tmo : Word) :
    ∀ e ∈ plainSetters p arg tmo ++ triggers p tmo, ∃ opc value,
      operation p e.1 = some (opc, tmo, .writeRegister e.2 value) ∧
        opc ≠ 0x15#6 ∧ opc ≠ 0x17#6 := by
  simp [plainSetters, triggers, operation]

theorem operation_of_mem_identifierSetters (p : Params) (arg tmo : Word) :
    ∀ e ∈ [(Instr.setMasterId arg tmo, p.ridMasterId), (.setSlaveId arg tmo, p.ridSlaveId)],
      ∃ opc, operation p e.1 = some (opc, tmo, .writeRegister e.2 arg) := by
  simp [operation]

/-- Every exchange reads or writes the register whose ACK it awaits. -/
theorem operation_of_mem_exchanges {p : Params} {arg tmo : Word} {i : Instr} {reg : Byte}
    (h : (i, reg) ∈ exchanges p arg tmo) :
    ∃ opc prim, operation p i = some (opc, tmo, prim) ∧
      (prim = .readRegister reg ∨ ∃ value, prim = .writeRegister reg value) := by
  have hsplit : (i, reg) ∈ getters p tmo ∨ (i, reg) ∈
      [(Instr.setMasterId arg tmo, p.ridMasterId), (.setSlaveId arg tmo, p.ridSlaveId)] ∨
      (i, reg) ∈ plainSetters p arg tmo ++ triggers p tmo := by
    simpa [exchanges, setters, or_assoc] using h
  rcases hsplit with hget | hid | hplain
  · obtain ⟨opc, hop, -⟩ := operation_of_mem_getters p tmo _ hget
    exact ⟨opc, _, hop, .inl rfl⟩
  · obtain ⟨opc, hop⟩ := operation_of_mem_identifierSetters p arg tmo _ hid
    exact ⟨opc, _, hop, .inr ⟨arg, rfl⟩⟩
  · obtain ⟨opc, value, hop, -⟩ := operation_of_mem_plainWrites p arg tmo _ hplain
    exact ⟨opc, _, hop, .inr ⟨value, rfl⟩⟩

/-- What the latch of an exchange in progress holds: the register awaited, and a read or a write. -/
theorem State.latch_of_exchange {s : State} {arg tmo : Word} {i : Instr} {reg : Byte}
    (h : (i, reg) ∈ exchanges s.params arg tmo) (hi : s.running i = true) :
    s.latch.reg = reg ∧ (s.latch.kind = .read ∨ s.latch.kind = .write) := by
  obtain ⟨opc, prim, hop, rfl | ⟨value, rfl⟩⟩ := operation_of_mem_exchanges h
  · rw [State.latch_of_running hi hop nofun]
    exact ⟨rfl, .inl rfl⟩
  · rw [State.latch_of_running hi hop nofun]
    exact ⟨rfl, .inr rfl⟩

/-! ## The issue step (40_protocol_engine R131) -/

@[simp] theorem State.issue_latch (opc : BitVec 6) (tmo : Word) (prim : Primitive) (s : State) :
    (s.issue opc tmo prim).latch = expand opc tmo s.draws prim := by
  cases prim <;> rfl

/-- A POLL goes to DRAIN with POLL_HIT cleared; every other operation goes to TX. -/
theorem issue_cases (opc : BitVec 6) (tmo : Word) (prim : Primitive) (s : State) :
    (kindOf prim = .poll ∧ s.issue opc tmo prim =
      { s with
        latch := expand opc tmo s.draws prim, draws := s.draws + 2, pollHit := false,
        phase := .drain }) ∨
    (kindOf prim ≠ .poll ∧ s.issue opc tmo prim =
      { s with latch := expand opc tmo s.draws prim, phase := .tx }) := by
  cases prim with
  | poll => exact .inl ⟨rfl, rfl⟩
  | _ => exact .inr ⟨nofun, rfl⟩

/-- After its issue step an accepted operation is in progress. -/
theorem running_issue {s : State} {i : Instr} {opc : BitVec 6} {tmo : Word} {prim : Primitive}
    (hop : operation s.params i = some (opc, tmo, prim)) (hwf : wellFormed s.params i = true) :
    (s.issue opc tmo prim).running i = true := by
  rw [State.running_iff]
  exact ⟨opc, tmo, prim, by simpa using hop, by simpa using hwf, by
    simpa using Latch.holds_expand opc tmo s.draws prim⟩

/-- A well-formed operation presented to an idle engine is issued. -/
theorem exec_of_idle {s : State} {i : Instr} {opc : BitVec 6} {tmo : Word} {prim : Primitive}
    (hop : operation s.params i = some (opc, tmo, prim)) (hwf : wellFormed s.params i = true)
    (hp : s.phase = .idle) : exec i s = .next (s.issue opc tmo prim) := by
  rw [exec_operation hop, hwf]
  rcases hostOp_cases opc tmo prim true s with ⟨-, -, e⟩ | ⟨-, h, -⟩ | ⟨hn, -⟩ | ⟨hn, -⟩
  · exact e
  · cases h
  · exact absurd hp hn
  · exact absurd hp hn

/-- A busy engine has no meaning for an operation that its latch does not hold. -/
theorem exec_of_not_holds {s : State} {i : Instr} {opc : BitVec 6} {tmo : Word} {prim : Primitive}
    (hop : operation s.params i = some (opc, tmo, prim)) (hp : s.phase ≠ .idle)
    (hl : ¬ s.latch.holds opc tmo prim = true) : exec i s = .refused .portNotReady := by
  rw [exec_operation hop]
  rcases hostOp_cases opc tmo prim (wellFormed s.params i) s with
    ⟨h, -⟩ | ⟨h, -⟩ | ⟨-, h, -⟩ | ⟨-, -, e⟩
  · exact absurd h hp
  · exact absurd h hp
  · exact absurd h hl
  · exact e

/-! ## The transmit step (40_protocol_engine R133 to R135) -/

section
variable {s : State} (reg mode : Byte) (value : Word)

theorem sendCommand_of_rejected (h : s.txAnswer < 0) : s.sendCommand reg mode value =
    { s with
      sent := s.sent ++ [buildCommand s.slaveId reg mode value],
      result := .txFail, phase := .idle } := by
  rw [State.sendCommand, if_pos h]
  rfl

theorem sendCommand_of_reqTlm (h : 0 ≤ s.txAnswer) (hk : s.latch.kind = .reqTlm) :
    s.sendCommand reg mode value =
      { s with
        sent := s.sent ++ [buildCommand s.slaveId reg mode value],
        result := .ok 0, phase := .idle } := by
  rw [State.sendCommand, if_neg (Int.not_lt.mpr h), if_pos hk]
  rfl

theorem sendCommand_of_exchange (h : 0 ≤ s.txAnswer)
    (hk : s.latch.kind = .read ∨ s.latch.kind = .write) :
    s.sendCommand reg mode value =
      { s with
        sent := s.sent ++ [buildCommand s.slaveId reg mode value],
        tStart := BitVec.ofNat 32 s.time, phase := .waitAck } := by
  have hreq : s.latch.kind ≠ .reqTlm := by
    rcases hk with hk | hk <;> rw [hk] <;> decide
  rw [State.sendCommand, if_neg (Int.not_lt.mpr h), if_neg hreq, if_pos hk]
  rfl

theorem sendCommand_of_readTlm (h : 0 ≤ s.txAnswer) (hk : s.latch.kind = .readTlm) :
    s.sendCommand reg mode value =
      { s with
        sent := s.sent ++ [buildCommand s.slaveId reg mode value],
        tStart := BitVec.ofNat 32 s.time, phase := .waitTlm } := by
  rw [State.sendCommand, if_neg (Int.not_lt.mpr h), if_neg (by simp [hk]), if_neg (by simp [hk])]
  rfl

end

theorem engineStep_of_tx {s : State} (hp : s.phase = .tx) :
    s.engineStep = s.sendCommand s.latch.reg s.latch.mode s.latch.value := by
  rw [State.engineStep, hp]
  rfl

/-- The operation in progress in TX transmits what the latch holds. -/
theorem exec_of_running_tx {s : State} {i : Instr} (hi : s.running i = true) (hp : s.phase = .tx) :
    exec i s = .next (s.sendCommand s.latch.reg s.latch.mode s.latch.value) := by
  rw [exec_of_running (by simp [hp]) hi, engineStep_of_tx hp]

/-! ## What a popped frame is (30_encoding R100) -/

theorem matches_of_classify_ack {s : State} {f : Frame} {reg ask : Byte} {value : Word}
    (h : classify s.params s.masterId f = .ack reg ask value) (hreg : reg = s.latch.reg) :
    ∃ d, s.matchesAck f d := by
  rcases classify_cases s.params s.masterId f with ⟨-, e⟩ | ⟨-, -, e⟩ | ⟨d, hf, e⟩
  · simp [e] at h
  · simp [e] at h
  rcases classifyPayload_cases s.params d with ⟨⟨h0, h3⟩, e'⟩ | ⟨-, k, -, e'⟩ | ⟨-, -, e'⟩ <;>
    rw [e, e'] at h
  · obtain ⟨rfl, -, -⟩ := Received.ack.inj h
    exact ⟨d, hf, h0, h3, hreg⟩
  · cases h
  · cases h

theorem isTelemetry_of_classify {s : State} {f : Frame} {d : Payload} {k : Kind}
    (h : classify s.params s.masterId f = .telemetry k d) : s.isTelemetry f d k := by
  rcases classify_cases s.params s.masterId f with ⟨-, e⟩ | ⟨-, -, e⟩ | ⟨d', hf, e⟩
  · simp [e] at h
  · simp [e] at h
  rcases classifyPayload_cases s.params d' with ⟨-, e'⟩ | ⟨-, k', hk, e'⟩ | ⟨-, -, e'⟩ <;>
    rw [e, e'] at h
  · cases h
  · obtain ⟨rfl, rfl⟩ := Received.telemetry.inj h
    exact ⟨hf, hk⟩
  · cases h

theorem classify_of_matchesAck {s : State} {f : Frame} {d : Payload} (h : s.matchesAck f d) :
    classify s.params s.masterId f = .ack s.latch.reg d.d2 d.le32 := by
  obtain ⟨rfl, h0, h3, hreg⟩ := h
  rw [classify_frame, classifyPayload, if_pos ⟨h0, h3⟩, hreg]

theorem classify_of_isTelemetry {s : State} {f : Frame} {d : Payload} {k : Kind}
    (hwf : s.params.wf) (h : s.isTelemetry f d k) :
    classify s.params s.masterId f = .telemetry k d := by
  obtain ⟨rfl, hd⟩ := h
  rw [classify_frame, classifyPayload_of_ridOf hwf hd]

/-! ## What a popped frame does, by phase (40_protocol_engine R138 to R147) -/

theorem onAck_of_awaited {s : State} {reg : Byte} (ask : Byte) (value : Word)
    (hp : s.phase = .waitAck) (hreg : reg = s.latch.reg) :
    s.onAck reg ask value = s.ackComplete ask value :=
  if_pos ⟨hp, hreg⟩

theorem onAck_of_not_awaited {s : State} {reg : Byte} (ask : Byte) (value : Word)
    (h : ¬ (s.phase = .waitAck ∧ reg = s.latch.reg)) : s.onAck reg ask value = s :=
  if_neg h

theorem onTelemetry_of_drain {s : State} (c : Telemetry) (hp : s.phase = .drain) :
    s.onTelemetry c = { s.store c with pollHit := true } := by
  simp [State.onTelemetry, hp]

theorem onTelemetry_of_awaited {s : State} {c : Telemetry} (hp : s.phase = .waitTlm)
    (hreg : s.latch.reg = s.params.ridOf (telemetryKind c)) :
    s.onTelemetry c = (s.store c).complete (.ok 0) := by
  simp [State.onTelemetry, hp, hreg]

theorem onTelemetry_of_not_awaited {s : State} {c : Telemetry}
    (h : s.phase = .waitAck ∨
      s.phase = .waitTlm ∧ s.latch.reg ≠ s.params.ridOf (telemetryKind c)) :
    s.onTelemetry c = s := by
  rcases h with hp | ⟨hp, hreg⟩
  · simp [State.onTelemetry, hp]
  · simp [State.onTelemetry, hp, hreg.symm]

/-- What the frame at the head of the queue does when it is popped. -/
def State.popped (s : State) (f : Frame) : State :=
  s.consume (classify s.params s.masterId f)

theorem popped_of_matchesAck {s : State} {f : Frame} {d : Payload} (hp : s.phase = .waitAck)
    (h : s.matchesAck f d) : s.popped f = s.ackComplete d.d2 d.le32 := by
  rw [State.popped, classify_of_matchesAck h]
  exact onAck_of_awaited _ _ hp rfl

theorem popped_of_not_matchesAck {s : State} {f : Frame} (hp : s.phase = .waitAck)
    (h : ∀ d, ¬ s.matchesAck f d) : s.popped f = s := by
  rw [State.popped]
  rcases consume_cases (classify s.params s.masterId f) s with
    ⟨reg, ask, value, hc, e⟩ | ⟨k, d, -, e⟩ | ⟨-, e⟩ <;> rw [e]
  · refine onAck_of_not_awaited _ _ fun ⟨_, hreg⟩ => ?_
    obtain ⟨d, hd⟩ := matches_of_classify_ack hc hreg
    exact h d hd
  · exact onTelemetry_of_not_awaited (.inl hp)

theorem popped_of_matchesTlm {s : State} {f : Frame} {d : Payload} {k : Kind} (hwf : s.params.wf)
    (hp : s.phase = .waitTlm) (h : s.matchesTlm f d k) :
    s.popped f = (s.withGroup k d).complete (.ok 0) := by
  obtain ⟨htlm, hreg⟩ := h
  rw [State.popped, classify_of_isTelemetry hwf htlm, State.consume,
    onTelemetry_of_awaited hp (by simpa using hreg.symm), store_decodeTelemetry]

theorem popped_of_not_matchesTlm {s : State} {f : Frame} (hp : s.phase = .waitTlm)
    (h : ∀ d k, ¬ s.matchesTlm f d k) : s.popped f = s := by
  rw [State.popped]
  rcases consume_cases (classify s.params s.masterId f) s with
    ⟨reg, ask, value, -, e⟩ | ⟨k, d, hc, e⟩ | ⟨-, e⟩ <;> rw [e]
  · exact onAck_of_not_awaited _ _ (by simp [hp])
  · refine onTelemetry_of_not_awaited (.inr ⟨hp, fun hreg => ?_⟩)
    rw [telemetryKind_decodeTelemetry] at hreg
    exact h d k ⟨isTelemetry_of_classify hc, hreg.symm⟩

theorem popped_of_isTelemetry {s : State} {f : Frame} {d : Payload} {k : Kind} (hwf : s.params.wf)
    (hp : s.phase = .drain) (h : s.isTelemetry f d k) :
    s.popped f = { s.withGroup k d with pollHit := true } := by
  rw [State.popped, classify_of_isTelemetry hwf h, State.consume, onTelemetry_of_drain _ hp,
    store_decodeTelemetry]

theorem popped_of_not_isTelemetry {s : State} {f : Frame} (hp : s.phase = .drain)
    (h : ∀ d k, ¬ s.isTelemetry f d k) : s.popped f = s := by
  rw [State.popped]
  rcases consume_cases (classify s.params s.masterId f) s with
    ⟨reg, ask, value, -, e⟩ | ⟨k, d, hc, -⟩ | ⟨-, e⟩
  · rw [e]
    exact onAck_of_not_awaited _ _ (by simp [hp])
  · exact absurd (isTelemetry_of_classify hc) (h d k)
  · exact e

/-! ## The completion of an exchange (40_protocol_engine R139, R152) -/

/-- WriteBack as one update of the two identifiers. -/
theorem writeBack_eq (s : State) : s.writeBack =
    { s with
      slaveId := if s.latch.opc = 0x17 then s.latch.value.extractLsb 10 0 else s.slaveId,
      masterId := if s.latch.opc = 0x15 ∧ s.params.mstWriteback = true
        then s.latch.value.extractLsb 10 0 else s.masterId } := by
  have hid : s.latch.value.setWidth 11 = s.latch.value.extractLsb 10 0 :=
    BitVec.setWidth_eq_extractLsb' (by decide)
  rcases writeBack_cases s with ⟨h, e⟩ | ⟨h, hm, e⟩ | ⟨h, hm, e⟩ <;> rw [e]
  · simp [h, hid]
  · simp [h, hm, hid]
  · simp [h, if_neg hm]

theorem ackComplete_of_success {s : State} {ask : Byte} (value : Word)
    (h : ask = s.params.ackSuccess) : s.ackComplete ask value =
      { s with
        slaveId := if s.latch.opc = 0x17 then s.latch.value.extractLsb 10 0 else s.slaveId,
        masterId := if s.latch.opc = 0x15 ∧ s.params.mstWriteback = true
          then s.latch.value.extractLsb 10 0 else s.masterId,
        result := .ok (if s.latch.kind = .read then value else 0), phase := .idle } := by
  rw [State.ackComplete, if_pos ((ackReason_success_iff _ _).mpr h), writeBack_eq]
  rfl

/-- An exchange that is no identifier setter writes no identifier. -/
theorem ackComplete_of_plain {s : State} {ask : Byte} (value : Word)
    (h : ask = s.params.ackSuccess) (hmaster : s.latch.opc ≠ 0x15#6)
    (hslave : s.latch.opc ≠ 0x17#6) : s.ackComplete ask value =
      { s with result := .ok (if s.latch.kind = .read then value else 0), phase := .idle } := by
  rw [State.ackComplete, if_pos ((ackReason_success_iff _ _).mpr h)]
  rcases writeBack_cases s with ⟨ho, -⟩ | ⟨ho, -⟩ | ⟨-, -, e⟩
  · exact absurd ho hslave
  · exact absurd ho hmaster
  · rw [e]
    rfl

theorem ackComplete_of_nack {s : State} {ask : Byte} (value : Word)
    (h : ask ≠ s.params.ackSuccess) :
    s.ackComplete ask value = { s with result := .nack ask, phase := .idle } := by
  rw [State.ackComplete, if_neg fun hs => h ((ackReason_success_iff _ _).mp hs)]
  rfl

/-! ## The wait and drain steps (40_protocol_engine R136, R137, R145) -/

/-- A wait step whose deadline has not come, or a drain step: the steps that pop a frame. -/
def State.pops (s : State) : Prop :=
  (s.phase = .waitAck ∨ s.phase = .waitTlm) ∧ s.timedOut = false ∨ s.phase = .drain

theorem State.phase_ne_idle_of_wait {s : State} (h : s.phase = .waitAck ∨ s.phase = .waitTlm) :
    s.phase ≠ .idle := by
  rcases h with hp | hp <;> simp [hp]

theorem State.phase_ne_idle_of_pops {s : State} (h : s.pops) : s.phase ≠ .idle := by
  rcases h with ⟨hwait, -⟩ | hp
  · exact State.phase_ne_idle_of_wait hwait
  · simp [hp]

theorem engineStep_of_timedOut {s : State} (hp : s.phase = .waitAck ∨ s.phase = .waitTlm)
    (ht : s.timedOut = true) : s.engineStep = { s with result := .timeout, phase := .idle } := by
  rcases hp with hp | hp <;> simp [State.engineStep, State.waitStep, hp, ht, State.complete]

theorem engineStep_of_wait_nil {s : State} (hp : s.phase = .waitAck ∨ s.phase = .waitTlm)
    (ht : s.timedOut = false) (hq : s.rxQueue = []) : s.engineStep = s := by
  rcases hp with hp | hp <;> simp [State.engineStep, State.waitStep, hp, ht, hq]

theorem engineStep_of_drain_nil {s : State} (hp : s.phase = .drain) (hq : s.rxQueue = []) :
    s.engineStep = { s with result := .ok (if s.pollHit then 1 else 0), phase := .idle } := by
  simp [State.engineStep, State.drainStep, hp, hq, State.complete]

theorem engineStep_of_pops {s : State} {f : Frame} {q : List Frame} (hp : s.pops)
    (hq : s.rxQueue = f :: q) : s.engineStep = State.popped { s with rxQueue := q } f := by
  rcases hp with ⟨hp | hp, ht⟩ | hp
  · simp [State.engineStep, State.waitStep, hp, ht, hq, State.popped]
  · simp [State.engineStep, State.waitStep, hp, ht, hq, State.popped]
  · simp [State.engineStep, State.drainStep, hp, hq, State.popped]

/-- The operation in progress pops the frame at the head of the queue. -/
theorem exec_of_pops {s : State} {i : Instr} {f : Frame} {q : List Frame}
    (hi : s.running i = true) (hp : s.pops) (hq : s.rxQueue = f :: q) :
    exec i s = .next (State.popped { s with rxQueue := q } f) := by
  rw [exec_of_running (State.phase_ne_idle_of_pops hp) hi, engineStep_of_pops hp hq]

/-- An exchange in progress takes the ACK that it awaits. -/
theorem exec_of_awaited_ack {s : State} {i : Instr} {d : Payload} {q : List Frame}
    (hi : s.running i = true) (hp : s.phase = .waitAck) (ht : s.timedOut = false)
    (hq : s.rxQueue = d.frame s.masterId :: q) (h0 : d.d0 = 0xCC) (hreg : d.d1 = s.latch.reg)
    (h3 : d.d3 = 0xDD) :
    exec i s = .next (State.ackComplete d.d2 d.le32 { s with rxQueue := q }) := by
  have hmatch : State.matchesAck { s with rxQueue := q } (d.frame s.masterId) d :=
    ⟨rfl, h0, h3, hreg⟩
  rw [exec_of_pops hi (.inl ⟨.inl hp, ht⟩) hq,
    popped_of_matchesAck (s := { s with rxQueue := q }) hp hmatch]

theorem timedOut_iff {s : State} :
    s.timedOut = true ↔ s.latch.tmo ≤ BitVec.ofNat 32 s.time - s.tStart :=
  decide_eq_true_iff

theorem timedOut_eq_false_iff {s : State} :
    s.timedOut = false ↔ (BitVec.ofNat 32 s.time - s.tStart).toNat < s.latch.tmo.toNat := by
  rw [← Bool.not_eq_true, timedOut_iff, BitVec.le_def, Nat.not_le]

/-! ## Frames as instructions (log entries 10, 11) -/

/-- A received frame as an instruction acts where a step pops a frame. -/
theorem receiveFirst_of_pops {s : State} (d : Payload) (act : State → State) (h : s.pops) :
    s.receiveFirst d act = act s := by
  rcases h with ⟨hp | hp, ht⟩ | hp
  · simp [State.receiveFirst, hp, ht]
  · simp [State.receiveFirst, hp, ht]
  · simp [State.receiveFirst, hp]

section
variable {s : State} (d : Payload) (c : Telemetry)

theorem receiveFirst_onTelemetry_of_drain (hp : s.phase = .drain) :
    s.receiveFirst d (State.onTelemetry c) = { s.store c with pollHit := true } := by
  rw [receiveFirst_of_pops d _ (.inr hp), onTelemetry_of_drain c hp]

theorem receiveFirst_onTelemetry_of_awaited (hp : s.phase = .waitTlm) (ht : s.timedOut = false)
    (hreg : s.latch.reg = s.params.ridOf (telemetryKind c)) :
    s.receiveFirst d (State.onTelemetry c) = (s.store c).complete (.ok 0) := by
  rw [receiveFirst_of_pops d _ (.inl ⟨.inr hp, ht⟩), onTelemetry_of_awaited hp hreg]

theorem receiveFirst_onTelemetry_of_not_awaited (ht : s.timedOut = false)
    (h : s.phase = .waitAck ∨
      s.phase = .waitTlm ∧ s.latch.reg ≠ s.params.ridOf (telemetryKind c)) :
    s.receiveFirst d (State.onTelemetry c) = s := by
  have hpops : s.pops := .inl ⟨h.imp_right And.left, ht⟩
  rw [receiveFirst_of_pops d _ hpops, onTelemetry_of_not_awaited h]

end

/-- The instruction of a payload that comes in means that its frame is received first, and then does
what its class does. -/
theorem exec_of_decodeReceive {s : State} {d : Payload} {i : Instr}
    (h : decodeReceive s.params d = .ok i) :
    exec i s = .next (s.receiveFirst d (State.consume (classifyPayload s.params d))) := by
  rcases classifyPayload_cases s.params d with ⟨⟨h0, h3⟩, e⟩ | ⟨-, k, hk, e⟩ | ⟨-, -, e⟩
  · have hd : ackPayload d.d1 d.d2 d.le32 = d := commandPayload_of_marks h0 h3
    rw [decodeReceive, e] at h
    obtain rfl := Except.ok.inj h
    rw [e, exec, execAck, hd]
    rfl
  · rw [decodeReceive_of_telemetry e] at h
    obtain rfl := Except.ok.inj h
    have htriple := triplePayload_fields d
    have hquat := quatPayload_fields d
    rw [hk] at htriple hquat
    rw [e]
    cases k
    case quat => exact congrArg (fun d' => Host.Outcome.next (s.receiveFirst d' _)) hquat
    all_goals exact congrArg (fun d' => Host.Outcome.next (s.receiveFirst d' _)) htriple
  · rw [decodeReceive, e] at h
    cases h

/-- An engine that pops frames takes its own step on the frame at the head as on that frame received
first: past its deadline a wait leaves the frame queued. -/
theorem engineStep_eq_receiveFirst {s : State} {d : Payload} {q : List Frame}
    (hp : s.phase.receives = true) (hq : s.rxQueue = d.frame s.masterId :: q) :
    s.engineStep = State.receiveFirst d (State.consume (classifyPayload s.params d))
      { s with rxQueue := q } := by
  by_cases hpops : s.pops
  · rw [engineStep_of_pops hpops hq, receiveFirst_of_pops (s := { s with rxQueue := q }) _ _ hpops,
      State.popped]
    exact congrArg (fun r => State.consume r _) (classify_frame s.params s.masterId d)
  · obtain ⟨hwait, ht⟩ : (s.phase = .waitAck ∨ s.phase = .waitTlm) ∧ s.timedOut = true := by
      cases hphase : s.phase <;> simp_all [State.pops, Phase.receives]
    have hsame : s = { s with rxQueue := d.frame s.masterId :: q } := by rw [← hq]
    rw [engineStep_of_timedOut hwait ht]
    rcases receiveFirst_cases d (State.consume (classifyPayload s.params d))
      { s with rxQueue := q } with ⟨hno, -⟩ | ⟨-, -, e⟩ | ⟨hno, -⟩
    · rcases hwait with hw | hw <;> simp [hw] at hno
    · rw [e]
      exact congrArg (State.complete .timeout) hsame
    · exact absurd hno hpops

/-- A command frame goes out with the register, the mode and the value of its payload. -/
theorem payload_of_buildCommand {sid : Ident} {reg mode : Byte} {value : Word} {d : Payload}
    (h : buildCommand sid reg mode value = d.frame sid) : commandPayload reg mode value = d := by
  have hd : (buildCommand sid reg mode value).payload = (d.frame sid).payload := by rw [h]
  exact Option.some.inj hd

/-- The instruction of the command frame that is sent means the transmit step. -/
theorem exec_of_decodeSend {s : State} {reg mode : Byte} {value : Word} {i : Instr}
    (hp : s.phase = .tx) (h : decodeSend (commandPayload reg mode value) = .ok i) :
    exec i s = .next (s.sendCommand reg mode value) := by
  have hle := commandPayload_le32 reg mode value
  rcases decodeSend_cases h with ⟨rfl, hd⟩ | ⟨rfl, hd⟩
  · have hmode : mode = Config.modeRead := congrArg Payload.d2 hd
    have hvalue : value = 0 := by
      rw [← hle, hd, commandPayload_le32]
    rw [hmode, hvalue]
    exact if_pos hp
  · have hmode : mode = Config.modeWrite := congrArg Payload.d2 hd
    rw [hle, hmode]
    exact if_pos hp

/-! ## The invariant (10_state R29, R30) -/

theorem consume_phase (r : Received) (s : State) :
    (s.consume r).phase = s.phase ∨ (s.consume r).phase = .idle := by
  rcases consume_next_cases r s with ⟨x, e⟩ | ⟨x, e⟩ | ⟨c, x, e⟩ | ⟨c, e⟩ | e <;> simp [e]

/-- Where the engine's own step can lead: it stays in its phase or completes, and from TX it goes to
the wait that fits the primitive. -/
theorem engineStep_phase_cases (s : State) :
    s.engineStep.phase = s.phase ∧ s.phase ≠ .tx ∨ s.engineStep.phase = .idle ∨
    s.phase = .tx ∧ s.engineStep.phase = .waitAck ∧
      (s.latch.kind = .read ∨ s.latch.kind = .write) ∨
    s.phase = .tx ∧ s.engineStep.phase = .waitTlm ∧
      (s.latch.kind = .readTlm ∨ s.latch.kind = .poll) := by
  rcases engineStep_cases s with ⟨hp, e⟩ | ⟨hp, e⟩ | ⟨-, -, e⟩ | ⟨hp, -, -, e⟩ |
    ⟨hpops, f, q, -, e⟩ | ⟨-, -, e⟩ <;> rw [e]
  case inr.inl =>
    rcases sendCommand_cases s.latch.reg s.latch.mode s.latch.value s with
      ⟨-, e'⟩ | ⟨-, -, e'⟩ | ⟨-, hk, e'⟩ | ⟨-, hk, e'⟩ <;> rw [e']
    · exact .inr (.inl rfl)
    · exact .inr (.inl rfl)
    · exact .inr (.inr (.inl ⟨hp, rfl, hk⟩))
    · exact .inr (.inr (.inr ⟨hp, rfl, hk⟩))
  case inr.inr.inr.inr.inl =>
    have htx : s.phase ≠ .tx := by
      rcases hpops with ⟨hp | hp, -⟩ | hp <;> simp [hp]
    rcases consume_phase (classify s.params s.masterId f) { s with rxQueue := q } with h | h
    · exact .inl ⟨h, htx⟩
    · exact .inr (.inl h)
  · exact .inl ⟨rfl, by simp [hp]⟩
  · exact .inr (.inl rfl)
  · exact .inl ⟨rfl, by rcases hp with hp | hp <;> simp [hp]⟩
  · exact .inr (.inl rfl)

/-- The phase after the engine's own step fits the latched primitive. -/
theorem phaseFits_engineStep {s : State} (h : phaseFits s.phase s.latch.kind = true) :
    phaseFits s.engineStep.phase s.latch.kind = true := by
  rcases engineStep_phase_cases s with ⟨e, -⟩ | e | ⟨-, e, hk | hk⟩ | ⟨hp, e, hk | hk⟩
  · rwa [e]
  · rw [e]
    rfl
  · simp [e, hk, phaseFits]
  · simp [e, hk, phaseFits]
  · simp [e, hk, phaseFits]
  · simp [hp, hk, phaseFits] at h

/-- The phase after an issue step fits the latched primitive. -/
theorem phaseFits_issue (opc : BitVec 6) (tmo : Word) (prim : Primitive) (s : State) :
    phaseFits (s.issue opc tmo prim).phase (kindOf prim) = true := by
  cases prim <;> rfl

/-- An operation is in progress by the latch and the parameters alone. -/
theorem running_congr {s t : State} (hlatch : t.latch = s.latch) (hparams : t.params = s.params)
    (i : Instr) : t.running i = s.running i := by
  simp only [State.running, hlatch, hparams]

/-- The invariant speaks of latch, parameters and phase only: a state with the same latch and
parameters, busy only if the first is, meets it in a phase that fits. -/
theorem inv_of_latch_eq {s t : State} (h : Inv s) (hlatch : t.latch = s.latch)
    (hparams : t.params = s.params) (hphase : t.phase ≠ .idle → s.phase ≠ .idle)
    (hfits : phaseFits t.phase t.latch.kind = true) : Inv t := by
  obtain ⟨hwf, hrun, -⟩ := h
  refine ⟨hparams ▸ hwf, fun hp => ?_, hfits⟩
  obtain ⟨i, hi⟩ := hrun (hphase hp)
  exact ⟨i, (running_congr hlatch hparams i).trans hi⟩

theorem inv_afterTurn {s : State} (h : Inv s) : Inv s.afterTurn := by
  obtain ⟨-, -, hfits⟩ := id h
  exact inv_of_latch_eq h (by simp) (by simp) (by simp) (by simpa using hfits)

theorem inv_engineStep {s : State} (h : Inv s) : Inv s.engineStep := by
  obtain ⟨-, -, hfits⟩ := id h
  refine inv_of_latch_eq h (by simp) (by simp) (fun hbusy hidle => hbusy ?_)
    (by simpa using phaseFits_engineStep hfits)
  simp [State.engineStep, hidle]

theorem inv_issue {s : State} {i : Instr} {opc : BitVec 6} {tmo : Word} {prim : Primitive}
    (h : Inv s) (hop : operation s.params i = some (opc, tmo, prim))
    (hwf : wellFormed s.params i = true) : Inv (s.issue opc tmo prim) := by
  obtain ⟨hparams, -, -⟩ := h
  exact ⟨by simpa using hparams, fun _ => ⟨i, running_issue hop hwf⟩, by
    simpa using phaseFits_issue opc tmo prim s⟩

/-! ## The rows of the table of transitions (40_protocol_engine R148) -/

/-- The rows from TX; POLL, which never transmits, is left out. -/
theorem engineStep_tx_cases {s : State} (hp : s.phase = .tx) (hk : s.latch.kind ≠ .poll) :
    let f := buildCommand s.slaveId s.latch.reg s.latch.mode s.latch.value
    (s.txAnswer < 0 ∧
      s.engineStep = { s with sent := s.sent ++ [f], result := .txFail, phase := .idle }) ∨
    (0 ≤ s.txAnswer ∧ s.latch.kind = .reqTlm ∧
      s.engineStep = { s with sent := s.sent ++ [f], result := .ok 0, phase := .idle }) ∨
    (0 ≤ s.txAnswer ∧ (s.latch.kind = .read ∨ s.latch.kind = .write) ∧ s.engineStep =
      { s with sent := s.sent ++ [f], tStart := BitVec.ofNat 32 s.time, phase := .waitAck }) ∨
    (0 ≤ s.txAnswer ∧ s.latch.kind = .readTlm ∧ s.engineStep =
      { s with sent := s.sent ++ [f], tStart := BitVec.ofNat 32 s.time, phase := .waitTlm }) := by
  rw [engineStep_of_tx hp]
  rcases lt_or_ge s.txAnswer 0 with hneg | hpos
  · exact .inl ⟨hneg, sendCommand_of_rejected _ _ _ hneg⟩
  refine .inr ?_
  cases hkind : s.latch.kind with
  | reqTlm => exact .inl ⟨hpos, rfl, sendCommand_of_reqTlm _ _ _ hpos hkind⟩
  | read => exact .inr (.inl ⟨hpos, .inl rfl, sendCommand_of_exchange _ _ _ hpos (.inl hkind)⟩)
  | write => exact .inr (.inl ⟨hpos, .inr rfl, sendCommand_of_exchange _ _ _ hpos (.inr hkind)⟩)
  | readTlm => exact .inr (.inr ⟨hpos, rfl, sendCommand_of_readTlm _ _ _ hpos hkind⟩)
  | poll => exact absurd hkind hk

/-- The rows from WAIT_ACK. -/
theorem engineStep_waitAck_cases {s : State} (hp : s.phase = .waitAck) :
    (s.timedOut = true ∧ s.engineStep = { s with result := .timeout, phase := .idle }) ∨
    (s.timedOut = false ∧ s.rxQueue = [] ∧ s.engineStep = s) ∨
    (s.timedOut = false ∧ ∃ g q, s.rxQueue = g :: q ∧ (∀ d, ¬ s.matchesAck g d) ∧
      s.engineStep = { s with rxQueue := q }) ∨
    (s.timedOut = false ∧ ∃ g q d, s.rxQueue = g :: q ∧ s.matchesAck g d ∧
      d.d2 = s.params.ackSuccess ∧ s.engineStep = { s with
        rxQueue := q,
        slaveId := if s.latch.opc = 0x17 then s.latch.value.extractLsb 10 0 else s.slaveId,
        masterId := if s.latch.opc = 0x15 ∧ s.params.mstWriteback = true
          then s.latch.value.extractLsb 10 0 else s.masterId,
        result := .ok (if s.latch.kind = .read then d.le32 else 0), phase := .idle }) ∨
    (s.timedOut = false ∧ ∃ g q d, s.rxQueue = g :: q ∧ s.matchesAck g d ∧
      d.d2 ≠ s.params.ackSuccess ∧
      s.engineStep = { s with rxQueue := q, result := .nack d.d2, phase := .idle }) := by
  cases ht : s.timedOut with
  | true => exact .inl ⟨rfl, engineStep_of_timedOut (.inl hp) ht⟩
  | false =>
    refine .inr ?_
    by_cases hempty : s.rxQueue = []
    · exact .inl ⟨rfl, hempty, engineStep_of_wait_nil (.inl hp) ht hempty⟩
    obtain ⟨g, q, hq⟩ := List.exists_cons_of_ne_nil hempty
    have e := engineStep_of_pops (.inl ⟨.inl hp, ht⟩) hq
    by_cases hm : ∃ d, s.matchesAck g d
    · obtain ⟨d, hd⟩ := hm
      have e' := e.trans (popped_of_matchesAck (s := { s with rxQueue := q }) hp hd)
      by_cases hack : d.d2 = s.params.ackSuccess
      · exact .inr (.inr (.inl ⟨rfl, g, q, d, hq, hd, hack,
          e'.trans (ackComplete_of_success (s := { s with rxQueue := q }) _ hack)⟩))
      · exact .inr (.inr (.inr ⟨rfl, g, q, d, hq, hd, hack,
          e'.trans (ackComplete_of_nack (s := { s with rxQueue := q }) _ hack)⟩))
    · have hno : ∀ d, ¬ s.matchesAck g d := not_exists.mp hm
      exact .inr (.inl ⟨rfl, g, q, hq, hno,
        e.trans (popped_of_not_matchesAck (s := { s with rxQueue := q }) hp hno)⟩)

/-- The rows from WAIT_TLM. -/
theorem engineStep_waitTlm_cases {s : State} (hwf : s.params.wf) (hp : s.phase = .waitTlm) :
    (s.timedOut = true ∧ s.engineStep = { s with result := .timeout, phase := .idle }) ∨
    (s.timedOut = false ∧ s.rxQueue = [] ∧ s.engineStep = s) ∨
    (s.timedOut = false ∧ ∃ g q, s.rxQueue = g :: q ∧ (∀ d k, ¬ s.matchesTlm g d k) ∧
      s.engineStep = { s with rxQueue := q }) ∨
    (s.timedOut = false ∧ ∃ g q d k, s.rxQueue = g :: q ∧ s.matchesTlm g d k ∧
      s.engineStep = { s.withGroup k d with rxQueue := q, result := .ok 0, phase := .idle }) := by
  cases ht : s.timedOut with
  | true => exact .inl ⟨rfl, engineStep_of_timedOut (.inr hp) ht⟩
  | false =>
    refine .inr ?_
    by_cases hempty : s.rxQueue = []
    · exact .inl ⟨rfl, hempty, engineStep_of_wait_nil (.inr hp) ht hempty⟩
    obtain ⟨g, q, hq⟩ := List.exists_cons_of_ne_nil hempty
    have e := engineStep_of_pops (.inl ⟨.inr hp, ht⟩) hq
    by_cases hm : ∃ d k, s.matchesTlm g d k
    · obtain ⟨d, k, hd⟩ := hm
      exact .inr (.inr ⟨rfl, g, q, d, k, hq, hd,
        e.trans (popped_of_matchesTlm (s := { s with rxQueue := q }) hwf hp hd)⟩)
    · have hno : ∀ d k, ¬ s.matchesTlm g d k := fun d k hd => hm ⟨d, k, hd⟩
      exact .inr (.inl ⟨rfl, g, q, hq, hno,
        e.trans (popped_of_not_matchesTlm (s := { s with rxQueue := q }) hp hno)⟩)

/-- The rows from DRAIN. -/
theorem engineStep_drain_cases {s : State} (hwf : s.params.wf) (hp : s.phase = .drain) :
    (s.rxQueue = [] ∧
      s.engineStep = { s with result := .ok (if s.pollHit then 1 else 0), phase := .idle }) ∨
    (∃ g q d k, s.rxQueue = g :: q ∧ s.isTelemetry g d k ∧
      s.engineStep = { s.withGroup k d with rxQueue := q, pollHit := true }) ∨
    (∃ g q, s.rxQueue = g :: q ∧ (∀ d k, ¬ s.isTelemetry g d k) ∧
      s.engineStep = { s with rxQueue := q }) := by
  by_cases hempty : s.rxQueue = []
  · exact .inl ⟨hempty, engineStep_of_drain_nil hp hempty⟩
  obtain ⟨g, q, hq⟩ := List.exists_cons_of_ne_nil hempty
  have e := engineStep_of_pops (.inr hp) hq
  by_cases hm : ∃ d k, s.isTelemetry g d k
  · obtain ⟨d, k, hd⟩ := hm
    exact .inr (.inl ⟨g, q, d, k, hq, hd,
      e.trans (popped_of_isTelemetry (s := { s with rxQueue := q }) hwf hp hd)⟩)
  · have hno : ∀ d k, ¬ s.isTelemetry g d k := fun d k hd => hm ⟨d, k, hd⟩
    exact .inr (.inr ⟨g, q, hq, hno,
      e.trans (popped_of_not_isTelemetry (s := { s with rxQueue := q }) hp hno)⟩)

/-- The rows from IDLE, the host's cache not being read. -/
theorem step_idle_cases {s t : State} (hp : s.phase = .idle)
    (hr : ∀ a, s.nextTurn.host ≠ .readCache a) (h : step s = .next t) :
    (s.nextTurn.host = .wait ∧ t = s.afterTurn) ∨
    (∃ c, s.nextTurn.host = .command c ∧
      (∀ i, decodeHost c = .ok i → wellFormed s.afterTurn.params i = false) ∧
      t = s.afterTurn.refuse) ∨
    ∃ c i opc tmo prim, s.nextTurn.host = .command c ∧ decodeHost c = .ok i ∧
      t.running i = true ∧ t = s.afterTurn.issue opc tmo prim := by
  rcases step_cases s with ⟨a, _, _, ha, -⟩ | ⟨a, ha, -⟩ |
    ⟨c, i, opc, tmo, prim, hc, -, hd, hop, hwf, e⟩ | ⟨c, hc, -, hill, e⟩ | ⟨hwait, -, e⟩
  · exact absurd ha (hr a)
  · exact absurd ha (hr a)
  · obtain rfl := Host.Outcome.next.inj (e.symm.trans h)
    exact .inr (.inr ⟨c, i, opc, tmo, prim, hc, hd,
      running_issue (by simpa using hop) (by simpa using hwf), rfl⟩)
  · obtain rfl := Host.Outcome.next.inj (e.symm.trans h)
    exact .inr (.inl ⟨c, hc, by simpa using hill, rfl⟩)
  · obtain rfl := Host.Outcome.next.inj (e.symm.trans h)
    have hidle : s.afterTurn.phase = .idle := by simpa using hp
    exact .inl ⟨hwait.resolve_right (not_not.mpr hp), by rw [State.engineStep, hidle]⟩

/-! ## Runs of several steps -/

theorem run_succ {s t : State} (n : Nat) (h : step s = .next t) : run (n + 1) s = run n t := by
  rw [run, h]

theorem State.afterTurn_script {s : State} {t : Turn} {rest : List Turn}
    (h : s.script = t :: rest) : s.afterTurn.script = rest := by
  rw [State.afterTurn_of_script h]
  rfl

/-- A turn in which the host waits is a step of the engine. -/
theorem step_of_wait {s : State} (h : s.nextTurn.host = .wait) :
    step s = .next s.afterTurn.engineStep := by
  simp [step, h]

@[simp] theorem queueAfter_tick (c : RxCapacity) (q : List Frame) (ms : Nat) :
    queueAfter c (tick ms) q = q := rfl

/-- A turn in which one millisecond passes adds it to the elapsed time, unless the clock wraps. -/
theorem elapsed_tick {s : State} (h : s.nextTurn = tick 1)
    (hlt : (BitVec.ofNat 32 s.time - s.tStart).toNat + 1 < 2 ^ 32) :
    (BitVec.ofNat 32 s.afterTurn.time - s.afterTurn.tStart).toNat =
      (BitVec.ofNat 32 s.time - s.tStart).toNat + 1 := by
  have hsum : BitVec.ofNat 32 (s.time + 1) - s.tStart = BitVec.ofNat 32 s.time - s.tStart + 1 := by
    rw [BitVec.ofNat_add]
    exact add_sub_right_comm _ _ _
  rw [State.afterTurn_time, State.afterTurn_tStart, h]
  change (BitVec.ofNat 32 (s.time + 1) - s.tStart).toNat = _
  rw [hsum, BitVec.toNat_add]
  exact Nat.mod_eq_of_lt hlt

/-- A wait that has just begun is not over after a shorter time than its timeout. -/
theorem timedOut_of_elapse_lt {s : State} (hstart : s.tStart = BitVec.ofNat 32 s.time)
    (hlt : s.nextTurn.elapse < s.latch.tmo.toNat) : s.afterTurn.timedOut = false := by
  have hwrap : s.nextTurn.elapse < 4294967296 := hlt.trans s.latch.tmo.isLt
  rw [timedOut_eq_false_iff]
  simpa [hstart, BitVec.ofNat_add, Nat.mod_eq_of_lt hwrap] using hlt

/-- A busy engine runs the operation in progress when the host waits. -/
theorem step_of_running {s : State} {i : Instr} (hp : s.phase ≠ .idle)
    (hw : s.nextTurn.host = .wait) (hi : s.running i = true) : step s = exec i s.afterTurn := by
  rw [step_of_wait hw, exec_of_running (by simpa using hp) (by simpa using hi)]

/-! ### An exchange -/

/-- An idle engine issues the well-formed operation that the presented command decodes to. -/
theorem step_of_issue {s : State} {c : HostCmd} {i : Instr} {opc : BitVec 6} {tmo : Word}
    {prim : Primitive} (hc : s.nextTurn.host = .command c) (hp : s.phase = .idle)
    (hd : decodeHost c = .ok i) (hop : operation s.params i = some (opc, tmo, prim))
    (hwf : wellFormed s.params i = true) : step s = .next (s.afterTurn.issue opc tmo prim) := by
  rw [step_of_command hc hp hd,
    exec_of_idle (by simpa using hop) (by simpa using hwf) (by simpa using hp)]

/-- The state after a transmit step that opens the wait for an ACK (40_protocol_engine R133,
R135). -/
def State.openWait (s : State) : State :=
  { s.afterTurn with
    sent := s.sent ++ [buildCommand s.slaveId s.latch.reg s.latch.mode s.latch.value],
    tStart := BitVec.ofNat 32 s.afterTurn.time, phase := .waitAck }

@[simp] theorem State.openWait_masterId (s : State) : s.openWait.masterId = s.masterId := by
  simp [State.openWait]
@[simp] theorem State.openWait_slaveId (s : State) : s.openWait.slaveId = s.slaveId := by
  simp [State.openWait]
@[simp] theorem State.openWait_phase (s : State) : s.openWait.phase = .waitAck := rfl
@[simp] theorem State.openWait_latch (s : State) : s.openWait.latch = s.latch := by
  simp [State.openWait]
@[simp] theorem State.openWait_params (s : State) : s.openWait.params = s.params := by
  simp [State.openWait]
@[simp] theorem State.openWait_sent (s : State) : s.openWait.sent =
    s.sent ++ [buildCommand s.slaveId s.latch.reg s.latch.mode s.latch.value] := rfl
@[simp] theorem State.openWait_rxQueue (s : State) :
    s.openWait.rxQueue = queueAfter s.params.rxCapacity s.nextTurn s.rxQueue :=
  s.afterTurn_rxQueue
theorem State.openWait_script (s : State) : s.openWait.script = s.afterTurn.script := rfl

theorem step_of_accepted_send {s : State} (hp : s.phase = .tx) (hw : s.nextTurn.host = .wait)
    (ha : 0 ≤ s.nextTurn.txAnswer) (hk : s.latch.kind = .read ∨ s.latch.kind = .write) :
    step s = .next s.openWait := by
  rw [step_of_wait hw, engineStep_of_tx (by simpa using hp),
    sendCommand_of_exchange _ _ _ (by simpa using ha) (by simpa using hk)]
  simp [State.openWait]

/-- A frame that arrives at an empty queue waits in it, unless the queue holds no frame at all. -/
theorem queueAfter_single {c : RxCapacity} {ms : Nat} {answer : Int} {m : HostMove} (f : Frame)
    (h : c.depth ≠ some 0) : queueAfter c ⟨ms, 0, [f], answer, m⟩ [] = [f] :=
  enqueueAll_eq_append (q := []) fun _ hn => Nat.one_le_iff_ne_zero.mpr fun hz => h (hz ▸ hn)

/-! ### POLL -/

/-- What a drain step keeps of the frame it pops: POLL_HIT records whether it was telemetry, and the
engine stays in DRAIN with its identifier. -/
theorem popped_of_drain {s : State} (f : Frame) (hp : s.phase = .drain) :
    (s.popped f).phase = .drain ∧ (s.popped f).masterId = s.masterId ∧
      (s.popped f).params = s.params ∧ (s.popped f).rxQueue = s.rxQueue ∧
      (s.popped f).script = s.script ∧
      (s.popped f).pollHit = (s.pollHit || (classify s.params s.masterId f).isTelemetry) := by
  rw [State.popped]
  rcases consume_cases (classify s.params s.masterId f) s with
    ⟨reg, ask, value, hc, e⟩ | ⟨k, d, hc, e⟩ | ⟨hc, e⟩
  · rw [e, onAck_of_not_awaited _ _ (by simp [hp]), hc]
    simp [hp, Received.isTelemetry]
  · rw [e, onTelemetry_of_drain _ hp, hc]
    simp [hp, Received.isTelemetry]
  · rw [e]
    rcases hc with hc | hc | hc <;> simp [hp, hc, Received.isTelemetry]

end Sys2Proof.Machine

namespace Sys2Proof.Proofs

open Sys2Proof Sys2Proof.Machine

/-- Settles O41: the invariant over the turn, and from there over what the step does: a cache read
and a refusal leave latch, phase and parameters, an issue step latches a well-formed operation, and the
engine's own step moves to a phase that fits it. -/
theorem stepKeepsInvariant : Obligations.StepKeepsInvariant := by
  unfold Obligations.StepKeepsInvariant
  intro s t hinv h
  have hu := inv_afterTurn hinv
  obtain ⟨-, -, hfits⟩ := id hu
  rcases step_cases s with ⟨_, _, r, -, -, -, e⟩ | ⟨_, -, -, e⟩ |
    ⟨_, i, opc, tmo, prim, -, -, -, hop, hwf, e⟩ | ⟨_, -, -, -, e⟩ | ⟨-, -, e⟩ <;> rw [e] at h
  · obtain rfl := Host.Outcome.next.inj h
    exact inv_of_latch_eq hu (by simp) (by simp) (by simp) (by simpa using hfits)
  · cases h
  · obtain rfl := Host.Outcome.next.inj h
    exact inv_issue hu (by simpa using hop) (by simpa using hwf)
  · obtain rfl := Host.Outcome.next.inj h
    exact inv_of_latch_eq hu rfl rfl id hfits
  · obtain rfl := Host.Outcome.next.inj h
    exact inv_engineStep hu

/-- Settles O2: the frame at the head is received as the frame of its instruction, and the frame
that goes out is sent as the command of its instruction. -/
theorem stepRunsWireFrames : Obligations.StepRunsWireFrames := by
  unfold Obligations.StepRunsWireFrames
  refine fun s d i hr => ⟨fun q hp hq hd => ?_, fun hp hf hd => ?_⟩
  · have hbusy : s.phase ≠ .idle := fun h => by simp [h, Phase.receives] at hp
    have hstep := engineStep_eq_receiveFirst (s := s.afterTurn) (by simpa using hp)
      (by simpa using hq)
    rw [step_of_busy hbusy hr, hstep,
      exec_of_decodeReceive (s := { s.afterTurn with rxQueue := q }) (by simpa [decode] using hd)]
  · obtain rfl := payload_of_buildCommand hf
    rw [step_of_busy (by simp [hp]) hr, engineStep_of_tx (by simpa using hp),
      exec_of_decodeSend (s := s.afterTurn) (by simpa using hp) hd]
    simp

/-- Settles O14: what the issue step latches, primitive by primitive. -/
theorem acceptedCommandIsLatched : Obligations.AcceptedCommandIsLatched := by
  unfold Obligations.AcceptedCommandIsLatched
  intro s i opc tmo prim hop hwf hp
  have e := exec_of_idle hop hwf hp
  cases prim with
  | poll => exact ⟨_, _, _, _, e⟩
  | _ => exact e

/-- Settles O17: the transmit step with the transport's negative answer. -/
theorem rejectedSendCompletesTxFail : Obligations.RejectedSendCompletesTxFail := by
  unfold Obligations.RejectedSendCompletesTxFail
  intro s i hi hp hneg
  rw [exec_of_running_tx hi hp, sendCommand_of_rejected _ _ _ hneg]

/-- Settles O18: the latch of a REQUEST_x holds the read of its kind's register. -/
theorem requestCompletesWhenSent : Obligations.RequestCompletesWhenSent := by
  unfold Obligations.RequestCompletesWhenSent
  intro s tmo i k hmem hi hp hpos
  obtain ⟨opc, hop⟩ := operation_of_mem_requests s.params tmo _ hmem
  have hlatch := State.latch_of_running hi hop nofun
  rw [exec_of_running_tx hi hp, sendCommand_of_reqTlm _ _ _ hpos (by rw [hlatch]; rfl), hlatch]
  rfl

/-- Settles O19: an exchange is a read or a write of the register it awaits, a READ_x latches the
read of its kind's register. -/
theorem acceptedSendOpensWait : Obligations.AcceptedSendOpensWait := by
  unfold Obligations.AcceptedSendOpensWait
  intro s arg tmo i hi hp hpos
  rw [exec_of_running_tx hi hp]
  refine ⟨fun reg hmem => ?_, fun k hmem => ?_⟩
  · obtain ⟨rfl, hkind⟩ := State.latch_of_exchange hmem hi
    rw [sendCommand_of_exchange _ _ _ hpos hkind]
  · obtain ⟨opc, hop⟩ := operation_of_mem_telemetryReads s.params tmo _ hmem
    have hlatch := State.latch_of_running hi hop nofun
    rw [sendCommand_of_readTlm _ _ _ hpos (by rw [hlatch]; rfl), hlatch]
    rfl

/-- Settles O20: both commands are send_command with their operands. -/
theorem commandFramesAreSent : Obligations.CommandFramesAreSent := by
  unfold Obligations.CommandFramesAreSent
  intro s reg v i f hi
  obtain ⟨mode, value, rfl, hidle, htx⟩ : ∃ mode value, f = buildCommand s.slaveId reg mode value ∧
      (s.phase ≠ .tx → exec i s = .refused .transmitNotEnabled) ∧
      (s.phase = .tx → exec i s = .next (s.sendCommand reg mode value)) := by
    rcases hi with ⟨rfl, rfl⟩ | ⟨rfl, rfl⟩ <;>
      exact ⟨_, _, rfl, fun hp => if_neg hp, fun hp => if_pos hp⟩
  refine ⟨hidle, fun hp hneg => ?_, fun hp hpos hk => ?_, fun hp hpos hk => ?_,
    fun hp hpos hk => ?_⟩
  · rw [htx hp, sendCommand_of_rejected _ _ _ hneg]
  · rw [htx hp, sendCommand_of_reqTlm _ _ _ hpos hk]
  · rw [htx hp, sendCommand_of_exchange _ _ _ hpos hk]
  · rw [htx hp, sendCommand_of_readTlm _ _ _ hpos hk]

/-- Settles O21: a getter latches a read, and its opcode is neither identifier setter's. -/
theorem getterDeliversValue : Obligations.GetterDeliversValue := by
  unfold Obligations.GetterDeliversValue
  intro s tmo i reg d q hmem hi hp ht hq h0 h1 h2 h3
  obtain ⟨opc, hop, hmaster, hslave⟩ := operation_of_mem_getters s.params tmo _ hmem
  have hlatch := State.latch_of_running hi hop nofun
  have hreg : d.d1 = s.latch.reg := by rw [h1, hlatch]; rfl
  rw [exec_of_awaited_ack hi hp ht hq h0 hreg h3,
    ackComplete_of_plain (s := { s with rxQueue := q }) _ h2 (by rw [hlatch]; exact hmaster)
      (by rw [hlatch]; exact hslave), hlatch]
  rfl

/-- Settles O22: a plain setter or a trigger latches a write, and its opcode is neither identifier
setter's. -/
theorem plainWriteCompletesOkZero : Obligations.PlainWriteCompletesOkZero := by
  unfold Obligations.PlainWriteCompletesOkZero
  intro s arg tmo i reg d q hmem hi hp ht hq h0 h1 h2 h3
  obtain ⟨opc, value, hop, hmaster, hslave⟩ := operation_of_mem_plainWrites s.params arg tmo _ hmem
  have hlatch := State.latch_of_running hi hop nofun
  have hreg : d.d1 = s.latch.reg := by rw [h1, hlatch]; rfl
  rw [exec_of_awaited_ack hi hp ht hq h0 hreg h3,
    ackComplete_of_plain (s := { s with rxQueue := q }) _ h2 (by rw [hlatch]; exact hmaster)
      (by rw [hlatch]; exact hslave), hlatch]
  rfl

/-- Settles O25: the exchange awaits the register of the response, whose ack byte is no success. -/
theorem nackReportsAckByte : Obligations.NackReportsAckByte := by
  unfold Obligations.NackReportsAckByte
  intro s arg tmo i reg d q hmem hi hp ht hq h0 h1 h2 h3
  obtain ⟨rfl, -⟩ := State.latch_of_exchange hmem hi
  rw [exec_of_awaited_ack hi hp ht hq h0 h1 h3,
    ackComplete_of_nack (s := { s with rxQueue := q }) _ h2]

/-- Settles O26: past the deadline the wait step does not look at the queue; a REQ_TMO of 0 is
always past. -/
theorem timeoutPrecedesReceive : Obligations.TimeoutPrecedesReceive := by
  unfold Obligations.TimeoutPrecedesReceive
  intro s i hi hp hlate
  have ht : s.timedOut = true := by
    rw [timedOut_iff]
    rcases hlate with h | h
    · exact h
    · rw [h]
      exact BitVec.le_def.mpr (Nat.zero_le _)
  rw [exec_of_running (State.phase_ne_idle_of_wait hp) hi, engineStep_of_timedOut hp ht]

/-- Settles O27: an empty queue and a frame that does not match, in each of the two waits. -/
theorem waitDiscardsWhatDoesNotMatch : Obligations.WaitDiscardsWhatDoesNotMatch := by
  unfold Obligations.WaitDiscardsWhatDoesNotMatch
  intro s i hi hlt
  have ht : s.timedOut = false := timedOut_eq_false_iff.mpr hlt
  refine ⟨fun hp hq => ?_, fun f q hp hq hno => ?_, fun f q hp hq hno => ?_⟩
  · rw [exec_of_running (State.phase_ne_idle_of_wait hp) hi,
      engineStep_of_wait_nil hp ht hq]
  · rw [exec_of_pops hi (.inl ⟨.inl hp, ht⟩) hq,
      popped_of_not_matchesAck (s := { s with rxQueue := q }) hp fun d hd => hno ⟨d, hd⟩]
  · rw [exec_of_pops hi (.inl ⟨.inr hp, ht⟩) hq,
      popped_of_not_matchesTlm (s := { s with rxQueue := q }) hp fun d k ⟨⟨hf, hd⟩, hreg⟩ =>
        hno ⟨d, hf, hd.trans hreg⟩]

/-- Settles O28: a READ_x awaits the register of its kind, so the frame matches. -/
theorem readStoresItsGroup : Obligations.ReadStoresItsGroup := by
  unfold Obligations.ReadStoresItsGroup
  intro s tmo d q hwf hp ht hq
  have hread {i : Instr} {k : Kind} (hmem : (i, k) ∈ telemetryReads tmo) (hi : s.running i = true)
      (hd : d.d0 = s.params.ridOf k) : exec i s =
        .next ((State.withGroup { s with rxQueue := q } k d).complete (.ok 0)) := by
    obtain ⟨opc, hop⟩ := operation_of_mem_telemetryReads s.params tmo _ hmem
    have hmatch : State.matchesTlm { s with rxQueue := q } (d.frame s.masterId) d k :=
      ⟨⟨rfl, hd⟩, by rw [State.latch_of_running hi hop nofun]; rfl⟩
    rw [exec_of_pops hi (.inl ⟨.inr hp, ht⟩) hq,
      popped_of_matchesTlm (s := { s with rxQueue := q }) hwf hp hmatch]
  exact ⟨hread (k := .accel) (by simp [telemetryReads]),
    hread (k := .gyro) (by simp [telemetryReads]), hread (k := .euler) (by simp [telemetryReads]),
    hread (k := .quat) (by simp [telemetryReads])⟩

/-- Settles O29: a telemetry frame of any kind, popped in DRAIN. -/
theorem pollDecodesEveryKind : Obligations.PollDecodesEveryKind := by
  unfold Obligations.PollDecodesEveryKind
  intro s tmo d q hwf hi hp hq
  have hpoll (k : Kind) (hd : d.d0 = s.params.ridOf k) : exec (.poll tmo) s =
      .next { State.withGroup { s with rxQueue := q } k d with pollHit := true } := by
    rw [exec_of_pops hi (.inr hp) hq,
      popped_of_isTelemetry (s := { s with rxQueue := q }) hwf hp ⟨rfl, hd⟩]
  exact ⟨hpoll .accel, hpoll .gyro, hpoll .euler, hpoll .quat⟩

/-- Settles O30: a frame that is no telemetry, and the empty queue with either value of POLL_HIT. -/
theorem pollDiscardsAndCompletes : Obligations.PollDiscardsAndCompletes := by
  unfold Obligations.PollDiscardsAndCompletes
  intro s tmo hi hp
  refine ⟨fun f q hq hno => ?_, fun hq hhit => ?_, fun hq hhit => ?_⟩
  · rw [exec_of_pops hi (.inr hp) hq,
      popped_of_not_isTelemetry (s := { s with rxQueue := q }) hp fun d k hd => hno ⟨d, k, hd⟩]
  · rw [exec_of_running (by simp [hp]) hi, engineStep_of_drain_nil hp hq, hhit]
    rfl
  · rw [exec_of_running (by simp [hp]) hi, engineStep_of_drain_nil hp hq, hhit]
    rfl

/-- Settles O31: the awaited ACK by its ack byte, any other ACK because no exchange awaits it. -/
theorem ackFrameCompletesExchange : Obligations.AckFrameCompletesExchange := by
  unfold Obligations.AckFrameCompletesExchange
  intro s reg ask v
  have hexec (hpops : s.pops) : exec (.ack reg ask v) s = .next (s.onAck reg ask v) :=
    congrArg Host.Outcome.next (receiveFirst_of_pops _ _ hpops)
  refine ⟨fun hp ht hreg hask => ?_, fun hp ht hreg hask => ?_, fun h => ?_⟩
  · rw [hexec (.inl ⟨.inl hp, ht⟩), onAck_of_awaited _ _ hp hreg, ackComplete_of_success _ hask]
  · rw [hexec (.inl ⟨.inl hp, ht⟩), onAck_of_awaited _ _ hp hreg, ackComplete_of_nack _ hask]
  · rcases h with ⟨hp, ht, hreg⟩ | ⟨hp, ht⟩ | hp
    · rw [hexec (.inl ⟨.inl hp, ht⟩), onAck_of_not_awaited _ _ fun h => hreg h.2]
    · rw [hexec (.inl ⟨.inr hp, ht⟩), onAck_of_not_awaited _ _ (by simp [hp])]
    · rw [hexec (.inr hp), onAck_of_not_awaited _ _ (by simp [hp])]

/-- Settles O32: each of the four frames is received first and stores its codes, completes the wait
for its kind, or is discarded. -/
theorem telemetryFramesFillTheirGroup : Obligations.TelemetryFramesFillTheirGroup := by
  unfold Obligations.TelemetryFramesFillTheirGroup
  intro s b x y z qw qx qy qz
  have next {t u : State} (h : t = u) : (.next t : Answer) = .next u := congrArg _ h
  refine ⟨fun hp => ⟨next ?_, next ?_, next ?_, next ?_⟩,
    fun hp ht => ⟨fun hreg => next ?_, fun hreg => next ?_, fun hreg => next ?_,
      fun hreg => next ?_⟩,
    fun ht => ⟨fun h => next ?_, fun h => next ?_, fun h => next ?_, fun h => next ?_⟩⟩
  iterate 4 exact receiveFirst_onTelemetry_of_drain _ _ hp
  iterate 4 exact receiveFirst_onTelemetry_of_awaited _ _ hp ht hreg
  iterate 4 exact receiveFirst_onTelemetry_of_not_awaited _ _ ht h

/-- Settles O43: phase by phase, each thing that the step can do is a row of the table. -/
theorem phaseTransitionsFollowTable : Obligations.PhaseTransitionsFollowTable := by
  unfold Obligations.PhaseTransitionsFollowTable
  rintro s t u f hinv h hr hu rfl
  obtain ⟨hwf, -, hfits⟩ := hu ▸ inv_afterTurn hinv
  have hphase : u.phase = s.phase := by simp [hu]
  have hbusy (hp : s.phase ≠ .idle) : u.engineStep = t := by
    rw [hu]
    exact Host.Outcome.next.inj ((step_of_busy hp hr).symm.trans h)
  cases hp : s.phase with
  | idle =>
    have hidle := hphase.trans hp
    rcases hu ▸ step_idle_cases hp hr h with ⟨hwait, e⟩ | ⟨c, hc, hill, e⟩ |
      ⟨c, i, opc, tmo, prim, hc, hd, hrun, e⟩
    · rw [show t.phase = .idle from (congrArg State.phase e).trans hidle]
      exact .inl ⟨hwait, e⟩
    · rw [show t.phase = .idle from (congrArg State.phase e).trans hidle]
      exact .inr ⟨c, hc, hill, e⟩
    · have hkind : t.latch.kind = kindOf prim := by rw [e, State.issue_latch, expand_kind]
      rcases issue_cases opc tmo prim u with ⟨hpoll, e'⟩ | ⟨hpoll, e'⟩ <;>
        rw [← hkind] at hpoll <;> rw [← e] at e'
      · rw [show t.phase = .drain from congrArg State.phase e']
        exact ⟨c, i, hc, hd, hrun, hpoll, by rw [e']⟩
      · rw [show t.phase = .tx from congrArg State.phase e']
        exact ⟨c, i, hc, hd, hrun, hpoll, by rw [e']⟩
  | tx =>
    have hk : u.latch.kind ≠ .poll := by simpa [hphase, hp, phaseFits] using hfits
    rcases engineStep_tx_cases (hphase.trans hp) hk with
      ⟨ha, e⟩ | ⟨ha, hk, e⟩ | ⟨ha, hk, e⟩ | ⟨ha, hk, e⟩ <;>
      rw [hbusy (by simp [hp])] at e
    · rw [show t.phase = .idle from congrArg State.phase e]
      exact .inl ⟨ha, e⟩
    · rw [show t.phase = .idle from congrArg State.phase e]
      exact .inr ⟨ha, hk, e⟩
    · rw [show t.phase = .waitAck from congrArg State.phase e]
      exact ⟨ha, hk, e⟩
    · rw [show t.phase = .waitTlm from congrArg State.phase e]
      exact ⟨ha, hk, e⟩
  | waitAck =>
    have hwait := hphase.trans hp
    rcases engineStep_waitAck_cases hwait with ⟨htmo, e⟩ | ⟨htmo, hq, e⟩ |
      ⟨htmo, g, q, hq, hno, e⟩ | ⟨htmo, g, q, d, hq, hm, hack, e⟩ |
      ⟨htmo, g, q, d, hq, hm, hack, e⟩ <;>
      rw [hbusy (by simp [hp])] at e
    · rw [show t.phase = .idle from congrArg State.phase e]
      exact .inl ⟨htmo, e⟩
    · rw [show t.phase = .waitAck from (congrArg State.phase e).trans hwait]
      exact ⟨htmo, .inl ⟨hq, e⟩⟩
    · rw [show t.phase = .waitAck from (congrArg State.phase e).trans hwait]
      exact ⟨htmo, .inr ⟨g, q, hq, hno, e⟩⟩
    · rw [show t.phase = .idle from congrArg State.phase e]
      exact .inr ⟨htmo, g, q, d, hq, hm, .inl ⟨hack, e⟩⟩
    · rw [show t.phase = .idle from congrArg State.phase e]
      exact .inr ⟨htmo, g, q, d, hq, hm, .inr ⟨hack, e⟩⟩
  | waitTlm =>
    have hwait := hphase.trans hp
    rcases engineStep_waitTlm_cases hwf hwait with ⟨htmo, e⟩ | ⟨htmo, hq, e⟩ |
      ⟨htmo, g, q, hq, hno, e⟩ | ⟨htmo, g, q, d, k, hq, hm, e⟩ <;>
      rw [hbusy (by simp [hp])] at e
    · rw [show t.phase = .idle from congrArg State.phase e]
      exact .inl ⟨htmo, e⟩
    · rw [show t.phase = .waitTlm from (congrArg State.phase e).trans hwait]
      exact ⟨htmo, .inl ⟨hq, e⟩⟩
    · rw [show t.phase = .waitTlm from (congrArg State.phase e).trans hwait]
      exact ⟨htmo, .inr ⟨g, q, hq, hno, e⟩⟩
    · rw [show t.phase = .idle from congrArg State.phase e]
      exact .inr ⟨htmo, g, q, d, k, hq, hm, e⟩
  | drain =>
    have hdrain := hphase.trans hp
    rcases engineStep_drain_cases hwf hdrain with
      ⟨hq, e⟩ | ⟨g, q, d, k, hq, hm, e⟩ | ⟨g, q, hq, hno, e⟩ <;>
      rw [hbusy (by simp [hp])] at e
    · rw [show t.phase = .idle from congrArg State.phase e]
      exact ⟨hq, e⟩
    · rw [show t.phase = .drain from (congrArg State.phase e).trans hdrain]
      exact ⟨g, q, hq, .inl ⟨d, k, hm, e⟩⟩
    · rw [show t.phase = .drain from (congrArg State.phase e).trans hdrain]
      exact ⟨g, q, hq, .inr ⟨hno, e⟩⟩

/-- Settles O46: only the engine's own step in TX sends; it hands over one frame and leaves TX
whatever the transport answers. -/
theorem oneFramePerTransmitStep : Obligations.OneFramePerTransmitStep := by
  unfold Obligations.OneFramePerTransmitStep
  intro s t h
  by_cases hp : s.phase = .tx
  · rcases step_cases s with ⟨a, _, r, ha, -, -, e⟩ | ⟨_, -, -, e⟩ | ⟨_, _, _, _, _, -, hidle, -⟩ |
      ⟨_, -, hidle, -⟩ | ⟨-, -, e⟩
    · obtain rfl := Host.Outcome.next.inj (e.symm.trans h)
      exact .inl ⟨by simp, fun _ => ⟨a, ha⟩⟩
    · simp [e] at h
    · simp [hp] at hidle
    · simp [hp] at hidle
    · obtain rfl := Host.Outcome.next.inj (e.symm.trans h)
      have hu : s.afterTurn.phase = .tx := by simpa using hp
      refine .inr ⟨hp, ?_, by simp [engineStep_of_tx hu]⟩
      rcases engineStep_phase_cases s.afterTurn with ⟨-, hno⟩ | e | ⟨-, e, -⟩ | ⟨-, e, -⟩
      · exact absurd hu hno
      all_goals simp [e]
  · rcases step_sent_cases h with hsame | ⟨htx, -⟩
    · exact .inl ⟨hsame, fun htx => absurd htx hp⟩
    · exact absurd htx hp

/-- Settles O50, by induction on the waiting frames: a step pops one of them and records in POLL_HIT
whether it was telemetry; the last step finds the queue empty. -/
theorem pollDrainsTheQueue : Obligations.PollDrainsTheQueue := by
  unfold Obligations.PollDrainsTheQueue
  intro s rest hp hscript
  generalize hqueue : s.rxQueue = queue at hscript ⊢
  induction queue generalizing s with
  | nil =>
    have hturn := State.nextTurn_of_script hscript
    have e := engineStep_of_drain_nil (s := s.afterTurn) (by simpa using hp)
      (by simp [hturn, hqueue])
    refine ⟨_, run_succ 0 (step_of_wait (by rw [hturn]; rfl)), ?_⟩
    rw [e]
    simp [hturn, hqueue]
  | cons f q ih =>
    have hturn := State.nextTurn_of_script hscript
    have hrest := State.afterTurn_script hscript
    have hdrain : s.afterTurn.phase = .drain := by simpa using hp
    have e := engineStep_of_pops (s := s.afterTurn) (f := f) (q := q) (.inr hdrain)
      (by simp [hturn, hqueue])
    obtain ⟨hphase, hmaster, hparams, hq, hs, hhit⟩ :=
      popped_of_drain (s := { s.afterTurn with rxQueue := q }) f hdrain
    obtain ⟨t, hrun, hidle, hempty, hresult⟩ := ih _ hphase hq (hs.trans hrest)
    refine ⟨t, ?_, hidle, hempty, ?_⟩
    · rw [← hrun, ← e]
      exact run_succ _ (step_of_wait (by rw [hturn]; rfl))
    · rw [hresult, hhit, hmaster, hparams, List.any_cons, ← Bool.or_assoc]
      simp only [State.afterTurn_pollHit, State.afterTurn_params, State.afterTurn_masterId]
      rfl

/-- Settles O51: the issue step, the transmit step, and the wait step in which the response arrives
and the getter, the operation in progress, takes it. -/
theorem getterExchangeCompletes : Obligations.GetterExchangeCompletes := by
  unfold Obligations.GetterExchangeCompletes
  intro s tmo i reg d answer delay c rest hmem hdec hidle hq hdepth hpos hdelay h0 h1 h2 h3 hscript
  obtain ⟨opc, hop, -⟩ := operation_of_mem_getters s.params tmo _ hmem
  have hwf := wellFormed_of_mem_getters s.params tmo _ hmem
  have hturn := State.nextTurn_of_script hscript
  have hissue := step_of_issue (by rw [hturn]) hidle hdec hop hwf
  obtain ⟨u, hu⟩ : ∃ u, u = s.afterTurn.issue opc tmo (.readRegister reg) := ⟨_, rfl⟩
  have hlatch : u.latch = ⟨opc, .read, reg, 0, 0, tmo⟩ := by rw [hu]; rfl
  have hrun : u.running i = true := by
    rw [hu]
    exact running_issue (by simpa using hop) (by simpa using hwf)
  have hscript_u : u.script = ⟨0, 0, [], answer, .wait⟩ ::
      ⟨delay, 0, [d.frame s.masterId], 0, .wait⟩ :: rest := by
    rw [hu, State.issue_script, State.afterTurn_script hscript]
  have hturn_u := State.nextTurn_of_script hscript_u
  have hsend := step_of_accepted_send (s := u) (by rw [hu]; rfl) (by rw [hturn_u])
    (by rw [hturn_u]; exact hpos) (.inl (by rw [hlatch]))
  obtain ⟨v, hv⟩ : ∃ v, v = u.openWait := ⟨_, rfl⟩
  have hrun_v : v.running i = true :=
    (running_congr (by simp [hv]) (by simp [hv]) i).trans hrun
  have hturn_v : v.nextTurn = ⟨delay, 0, [d.frame s.masterId], 0, .wait⟩ := by
    refine State.nextTurn_of_script (rest := rest) ?_
    rw [hv, State.openWait_script, State.afterTurn_script hscript_u]
  have hqueue : v.afterTurn.rxQueue = [d.frame s.masterId] := by
    have hempty : v.rxQueue = [] := by
      rw [hv, State.openWait_rxQueue, hturn_u, hu]
      simp [hturn, hq]
    rw [State.afterTurn_rxQueue, hturn_v, hempty]
    exact queueAfter_single _ (by simpa [hv, hu] using hdepth)
  have hintime : v.afterTurn.timedOut = false :=
    timedOut_of_elapse_lt (by rw [hv]; rfl) (by
      rw [hturn_v, hv, State.openWait_latch, hlatch]
      exact hdelay)
  have hanswer : step v = .next { v.afterTurn with
      rxQueue := [], result := .ok d.le32, phase := .idle } := by
    rw [step_of_running (by simp [hv]) (by rw [hturn_v]) hrun_v]
    exact getterDeliversValue v.afterTurn tmo i reg d [] (by simpa [hv, hu] using hmem)
      (by simpa using hrun_v) (by simp [hv]) hintime (by simpa [hv, hu] using hqueue) h0 h1
      (by simpa [hv, hu] using h2) h3
  rw [← hu] at hissue
  rw [← hv] at hsend
  refine ⟨_, (run_succ 2 hissue).trans ((run_succ 1 hsend).trans (run_succ 0 hanswer)),
    rfl, rfl, rfl, ?sent, ?masterId, ?slaveId⟩
  case sent =>
    rw [State.afterTurn_sent, hv, State.openWait_sent, hlatch, hu]
    simp
  case masterId => simp [hv, hu]
  case slaveId => simp [hv, hu]

/-- Settles O52, by induction on the milliseconds left: in each step but the last one the deadline
has not come, so the wait stays as it is; in the last one it has. -/
theorem unansweredWaitTimesOut : Obligations.UnansweredWaitTimesOut := by
  unfold Obligations.UnansweredWaitTimesOut
  intro s n rest hp hq hpos hleft hscript
  obtain ⟨n, rfl⟩ := Nat.exists_eq_succ_of_ne_zero hpos.ne'
  clear hpos
  induction n generalizing s with
  | zero =>
    have hturn := State.nextTurn_of_script hscript
    have hlate : s.afterTurn.timedOut = true := by
      rw [timedOut_iff, BitVec.le_def, elapsed_tick hturn (by have := s.latch.tmo.isLt; omega)]
      simpa using hleft.ge
    have e := engineStep_of_timedOut (by simpa using hp) hlate
    refine ⟨⟨_, run_succ 0 (step_of_wait (by rw [hturn]; rfl)), by rw [e], by rw [e]⟩,
      fun m hm => ?_⟩
    obtain rfl := Nat.lt_one_iff.mp hm
    exact ⟨s, rfl, rfl, rfl⟩
  | succ n ih =>
    have hturn := State.nextTurn_of_script hscript
    have hclock := elapsed_tick hturn (by have := s.latch.tmo.isLt; omega)
    have hearly : s.afterTurn.timedOut = false := by
      rw [timedOut_eq_false_iff, hclock, State.afterTurn_latch]
      omega
    have e := engineStep_of_wait_nil (by simpa using hp) hearly (by simp [hturn, hq])
    have hstep : step s = .next s.afterTurn := by
      rw [step_of_wait (by rw [hturn]; rfl), e]
    obtain ⟨⟨t, hrun, hend⟩, hbefore⟩ := ih s.afterTurn (by simpa using hp) (by simp [hturn, hq])
      (by rw [hclock, State.afterTurn_latch]; omega) (State.afterTurn_script hscript)
    refine ⟨⟨t, (run_succ _ hstep).trans hrun, hend⟩, fun m hm => ?_⟩
    cases m with
    | zero => exact ⟨s, rfl, rfl, rfl⟩
    | succ m =>
      obtain ⟨t', hrun', hphase, hresult⟩ := hbefore m (Nat.lt_of_succ_lt_succ hm)
      exact ⟨t', (run_succ _ hstep).trans hrun', by simpa using hphase, by simpa using hresult⟩

/-- Settles O11: the fields of the payload, byte by byte. -/
theorem buildCommandBytes : Obligations.BuildCommandBytes := by
  unfold Obligations.BuildCommandBytes
  exact fun sid reg mode v => ⟨rfl, rfl⟩

/-- Settles O16: what the operation would have latched is not what the latch holds. -/
theorem otherOperationFindsPortNotReady : Obligations.OtherOperationFindsPortNotReady := by
  unfold Obligations.OtherOperationFindsPortNotReady
  intro s i opc tmo prim hop hp hother
  refine exec_of_not_holds hop hp ?_
  cases prim with
  | poll =>
    rw [Latch.holds_poll_iff]
    tauto
  | _ => exact fun hl => hother ((Latch.holds_iff_eq_expand (by simp) s.draws).mp hl)

end Sys2Proof.Proofs
end

section
/-! PROOFS of the family 41_telemetry_codec: the quantiser, and the decoded and rendered values of
the cache registers. -/

namespace Sys2Proof.Machine

/-! ## The quantiser -/

/-- The greatest code of a width, as a rational. -/
theorem cast_two_pow_sub_one (bits : Nat) : ((2 ^ bits - 1 : Nat) : Rat) = 2 ^ bits - 1 := by
  push_cast [Nat.one_le_two_pow]
  rfl

theorem two_pow_sub_one_pos {bits : Nat} (hb : 0 < bits) : (0 : Rat) < 2 ^ bits - 1 :=
  sub_pos.mpr (one_lt_pow₀ one_lt_two hb.ne')

@[simp] theorem quantise_zero (min max : Rat) (bits : Nat) : quantise 0 min max bits = min := by
  simp [quantise]

@[simp] theorem quantise_last (min max : Rat) {bits : Nat} (hb : 0 < bits) :
    quantise (2 ^ bits - 1) min max bits = max := by
  rw [quantise, cast_two_pow_sub_one, mul_div_cancel_left₀ _ (two_pow_sub_one_pos hb).ne',
    add_sub_cancel]

/-- Each further code adds the same positive step (41_telemetry_codec R181). -/
theorem quantise_strictMono {min max : Rat} {bits : Nat} (h : min < max) (hb : 0 < bits) :
    StrictMono fun raw => quantise raw min max bits := by
  intro a b hab
  have hscaled : (a : Rat) * (max - min) < b * (max - min) :=
    mul_lt_mul_of_pos_right (Nat.cast_lt.mpr hab) (sub_pos.mpr h)
  exact add_lt_add_right (div_lt_div_of_pos_right hscaled (two_pow_sub_one_pos hb)) min

/-- The closed form over a symmetric range (41_telemetry_codec R182). -/
theorem quantise_symmetric (raw : Nat) (m : Rat) {bits N : Nat} (hb : 0 < bits)
    (hN : N = 2 ^ bits - 1) :
    quantise raw (-m) m bits = m * (2 * (raw : Rat) - N) / N := by
  have hpos := two_pow_sub_one_pos hb
  rw [hN, cast_two_pow_sub_one, quantise]
  field_simp
  ring

theorem two_pow_sub_one_odd {bits : Nat} (hb : 0 < bits) : (2 ^ bits - 1) % 2 = 1 := by
  obtain ⟨k, rfl⟩ := Nat.exists_eq_succ_of_ne_zero hb.ne'
  have hk : 0 < 2 ^ k := by positivity
  rw [Nat.pow_succ]
  omega

/-! ## The cache registers -/

theorem codeWidth_pos (r : CacheReg) : 0 < codeWidth r := by
  cases r <;> decide

theorem codeWidth_le (r : CacheReg) : codeWidth r ≤ 16 := by
  cases r <;> decide

/-- Every quantised register has a range that is not a point (41_telemetry_codec R190). -/
theorem rangeMax_pos {r : CacheReg} {m : Rat} (hr : rangeMax r = some m) : 0 < m := by
  cases r <;> cases hr <;> norm_num [accelMax, gyroMax, pitchMax, yawMax, rollMax, quatMax]

theorem decodedValue_of_rangeMax {r : CacheReg} {m : Rat} (hr : rangeMax r = some m)
    (c : BitVec 16) : decodedValue r c = quantise c.toNat (-m) m (codeWidth r) := by
  rw [decodedValue, hr]

theorem decodedValue_of_rangeMax_none {r : CacheReg} (hr : rangeMax r = none) (c : BitVec 16) :
    decodedValue r c = (c.toNat : Rat) := by
  rw [decodedValue, hr]

/-- A code reflected in the middle of its register's width still fits the 16 bits. -/
theorem toNat_ofNat_reflected (r : CacheReg) (n : Nat) :
    (BitVec.ofNat 16 (2 ^ codeWidth r - 1 - n)).toNat = 2 ^ codeWidth r - 1 - n := by
  have hwidth : 2 ^ codeWidth r ≤ 2 ^ 16 := Nat.pow_le_pow_right two_pos (codeWidth_le r)
  rw [BitVec.toNat_ofNat]
  exact Nat.mod_eq_of_lt (by omega)

/-- A register's row of the table of 41_telemetry_codec R190: range, width, step, and the greatest
value at the greatest code. -/
theorem decodedValue_row {r : CacheReg} {m step : Rat} {w last : Nat} (c : BitVec 16)
    (hr : rangeMax r = some m) (hw : codeWidth r = w) (hlast : last = 2 ^ w - 1)
    (hstep : last * step = 2 * m) :
    rangeMax r = some m ∧ codeWidth r = w ∧ decodedValue r c = -m + (c.toNat : Rat) * step ∧
      (c.toNat = last → decodedValue r c = m) := by
  subst hw hlast
  have hb := codeWidth_pos r
  have hpos := two_pow_sub_one_pos hb
  refine ⟨hr, rfl, ?value, fun hc => ?greatest⟩ <;> rw [decodedValue_of_rangeMax hr]
  case value =>
    rw [cast_two_pow_sub_one] at hstep
    rw [quantise, sub_neg_eq_add, ← two_mul, ← hstep, mul_left_comm,
      mul_div_cancel_left₀ _ hpos.ne']
  case greatest => rw [hc, quantise_last _ _ hb]

end Sys2Proof.Machine

namespace Sys2Proof.Proofs

open Sys2Proof Sys2Proof.Machine

/-- Settles O36: the two ends and the strict monotonicity of the quantiser. -/
theorem quantiserIsMonotoneAndExactAtEnds : Obligations.QuantiserIsMonotoneAndExactAtEnds := by
  unfold Obligations.QuantiserIsMonotoneAndExactAtEnds
  exact fun min max bits h hb =>
    ⟨quantise_zero min max bits, quantise_last min max hb, fun _ _ hab =>
      quantise_strictMono h hb hab⟩

/-- Settles O37: in the closed form the factor 2c - N is nonzero because N is odd, the reflected code
negates it, and it is -1 and 1 at the two codes nearest the middle. -/
theorem noCodeDecodesToZero : Obligations.NoCodeDecodesToZero := by
  unfold Obligations.NoCodeDecodesToZero
  intro r m c N hr hN hc
  have hb := codeWidth_pos r
  have hodd : N % 2 = 1 := hN ▸ two_pow_sub_one_odd hb
  have closed (d : BitVec 16) : decodedValue r d = m * (2 * (d.toNat : Rat) - N) / N := by
    rw [decodedValue_of_rangeMax hr, quantise_symmetric _ _ hb hN]
  refine ⟨hodd, closed c, ?nonzero, ?opposite, fun h => ?below, fun h => ?above⟩ <;>
    simp only [closed]
  case nonzero =>
    have hN0 : (N : Rat) ≠ 0 := Nat.cast_ne_zero.mpr (by omega)
    have hfactor : 2 * (c.toNat : Rat) - N ≠ 0 := sub_ne_zero.mpr (by
      have hne : 2 * c.toNat ≠ N := by omega
      exact_mod_cast hne)
    exact div_ne_zero (mul_ne_zero (rangeMax_pos hr).ne' hfactor) hN0
  case opposite =>
    have hreflected : (BitVec.ofNat 16 (N - c.toNat)).toNat = N - c.toNat :=
      hN ▸ toNat_ofNat_reflected r c.toNat
    rw [hreflected, Nat.cast_sub hc]
    ring
  case below =>
    have hfactor : (N : Rat) = 2 * c.toNat + 1 := by
      have hnat : N = 2 * c.toNat + 1 := by omega
      exact_mod_cast hnat
    rw [hfactor]
    ring
  case above =>
    have hfactor : 2 * (c.toNat : Rat) = N + 1 := by
      have hnat : 2 * c.toNat = N + 1 := by omega
      exact_mod_cast hnat
    rw [hfactor]
    ring

/-- Settles O38: the code lies between the least and the greatest one, so its value lies between
theirs, and the rendering keeps that order. -/
theorem decodedValuesStayInRange : Obligations.DecodedValuesStayInRange := by
  unfold Obligations.DecodedValuesStayInRange
  intro r m c hr hc
  have hm := rangeMax_pos hr
  have hb := codeWidth_pos r
  have hmono := (quantise_strictMono (by linarith : -m < m) hb).monotone
  have hleast : -m ≤ decodedValue r c := by
    simpa [decodedValue_of_rangeMax hr] using hmono (Nat.zero_le c.toNat)
  have hgreatest : decodedValue r c ≤ m := by
    simpa [decodedValue_of_rangeMax hr, hb] using hmono (Nat.le_sub_one_of_lt hc)
  exact ⟨hleast, hgreatest, Config.fpRender.monotone hleast, Config.fpRender.monotone hgreatest⟩

/-- Settles O55, row by row: each range is its step times the greatest code. -/
theorem decodedValuesFollowRangeTable : Obligations.DecodedValuesFollowRangeTable := by
  unfold Obligations.DecodedValuesFollowRangeTable
  intro c
  refine ⟨fun r hr => ?accel, fun r hr => ?gyro, ?pitch, fun r hr => ?yawRoll, fun r hr => ?quat,
    rfl, rfl, decodedValue_of_rangeMax_none rfl c⟩
  case pitch => exact decodedValue_row c rfl rfl rfl (by norm_num)
  all_goals fin_cases hr <;> exact decodedValue_row c rfl rfl rfl (by norm_num)

end Sys2Proof.Proofs
end

section
/-! PROOFS of the family 42_register_ops: the confirmation of the two identifier setters. -/

namespace Sys2Proof.Machine

/-- A confirmed write completes with OK(0), whatever the response's data field, and writes the value
it sent to the identifier that its opcode names, if any (40_protocol_engine R139, R152). -/
theorem exec_of_confirmed_write {s : State} {i : Instr} {opc : BitVec 6} {tmo value : Word}
    {reg : Byte} {d : Payload} {q : List Frame}
    (hop : operation s.params i = some (opc, tmo, .writeRegister reg value))
    (hi : s.running i = true) (hp : s.phase = .waitAck) (ht : s.timedOut = false)
    (hq : s.rxQueue = d.frame s.masterId :: q) (h0 : d.d0 = 0xCC) (h1 : d.d1 = reg)
    (h2 : d.d2 = s.params.ackSuccess) (h3 : d.d3 = 0xDD) :
    exec i s = .next { s with
      slaveId := if opc = 0x17 then value.extractLsb 10 0 else s.slaveId,
      masterId := if opc = 0x15 ∧ s.params.mstWriteback = true
        then value.extractLsb 10 0 else s.masterId,
      rxQueue := q, result := .ok 0, phase := .idle } := by
  have hlatch := State.latch_of_running hi hop nofun
  have hreg : d.d1 = s.latch.reg := by rw [h1, hlatch]; rfl
  rw [exec_of_awaited_ack hi hp ht hq h0 hreg h3,
    ackComplete_of_success (s := { s with rxQueue := q }) _ h2, hlatch]
  rfl

end Sys2Proof.Machine

namespace Sys2Proof.Proofs

open Sys2Proof Sys2Proof.Machine

/-- Settles O23: the confirmed write latches opcode 0x17, the one that writes SLAVE_ID back. -/
theorem setSlaveIdWritesBack : Obligations.SetSlaveIdWritesBack := by
  unfold Obligations.SetSlaveIdWritesBack
  intro s arg tmo d q hi hp ht hq h0 h1 h2 h3
  rw [exec_of_confirmed_write rfl hi hp ht hq h0 h1 h2 h3]
  rfl

/-- Settles O24: the confirmed write latches opcode 0x15, which writes MASTER_ID back in one case of
MST_WRITEBACK and nothing in the other. -/
theorem setMasterIdWritesBackByParameter : Obligations.SetMasterIdWritesBackByParameter := by
  unfold Obligations.SetMasterIdWritesBackByParameter
  intro s arg tmo d q hi hp ht hq h0 h1 h2 h3
  have hexec := exec_of_confirmed_write rfl hi hp ht hq h0 h1 h2 h3
  refine ⟨fun hback => ?_, fun hkeep => ?_⟩
  · rw [hexec, if_pos ⟨rfl, hback⟩]
    rfl
  · rw [hexec, if_neg (by simp [hkeep])]
    rfl

end Sys2Proof.Proofs
end

section
/-! PROOFS of the family 60_exceptions: frames that no step pops, what a step that does not complete
with OK leaves as it is, and the one way in which a step can stop. -/

namespace Sys2Proof.Machine

/-! ## Frames that no step pops (log entry 10) -/

/-- In IDLE and TX a received frame as an instruction stays at the head of the queue and does not
act. -/
theorem receiveFirst_of_idle_or_tx {s : State} (d : Payload) (act : State → State)
    (hp : s.phase = .idle ∨ s.phase = .tx) :
    s.receiveFirst d act = { s with rxQueue := d.frame s.masterId :: s.rxQueue } := by
  rcases hp with hp | hp <;> simp [State.receiveFirst, hp]

/-- Past its deadline a wait completes TIMEOUT; the frame stays queued and does not act. -/
theorem receiveFirst_of_timedOut {s : State} (d : Payload) (act : State → State)
    (hp : s.phase = .waitAck ∨ s.phase = .waitTlm) (ht : s.timedOut = true) :
    s.receiveFirst d act = { s with
      rxQueue := d.frame s.masterId :: s.rxQueue, result := .timeout, phase := .idle } := by
  rcases hp with hp | hp <;> simp [State.receiveFirst, State.complete, hp, ht]

/-- An instruction whose word comes in from the device means that its frame is received first, even
under ids that decode the word to another instruction (compare `exec_of_decodeReceive`). -/
theorem exec_of_encode_receivePayload {s : State} {i : Instr} {d : Payload}
    (h : encode s.params i = .receivePayload d) :
    ∃ act, exec i s = .next (s.receiveFirst d act) := by
  cases i <;> simp only [encode, hostWord, PortWord.receivePayload.injEq, reduceCtorEq] at h <;>
    subst h
  case ack reg ask value => exact ⟨State.onAck reg ask value, rfl⟩
  case tlmAccel temp x y z => exact ⟨State.onTelemetry (.accel ⟨temp, x, y, z⟩), rfl⟩
  case tlmGyro x y z => exact ⟨State.onTelemetry (.gyro ⟨x, y, z⟩), rfl⟩
  case tlmEuler pitch yaw roll => exact ⟨State.onTelemetry (.euler ⟨pitch, yaw, roll⟩), rfl⟩
  case tlmQuat w x y z => exact ⟨State.onTelemetry (.quat ⟨w, x, y, z⟩), rfl⟩

end Sys2Proof.Machine

namespace Sys2Proof.Proofs

open Sys2Proof Sys2Proof.Machine

/-- Settles O33: every instruction that comes in from the device is received first, and where no step
pops it that leaves its frame at the head of the queue. -/
theorem unpoppedFrameStaysQueued : Obligations.UnpoppedFrameStaysQueued := by
  unfold Obligations.UnpoppedFrameStaysQueued
  intro s i d hword
  obtain ⟨act, hexec⟩ := exec_of_encode_receivePayload hword
  refine ⟨fun hp => ?_, fun hp ht => ?_⟩
  · rw [hexec, receiveFirst_of_idle_or_tx d act hp]
  · rw [hexec, receiveFirst_of_timedOut d act hp ht]

/-- Settles O47: of the steps that write an identifier or the cache, a confirmed exchange and a
READ_x that gets its frame complete with OK, and the third is a drain step. -/
theorem failuresLeaveStateClean : Obligations.FailuresLeaveStateClean := by
  unfold Obligations.FailuresLeaveStateClean
  intro s t h hfail
  rcases step_writes_cases h with ⟨hmaster, hslave, hcache⟩ |
    ⟨u, q, rfl, ⟨hp, value, rfl⟩ | ⟨k, d, hp, -, rfl⟩ | ⟨k, d, hp, rfl⟩⟩
  · exact ⟨hmaster, hslave, fun _ => by simpa [State.cache] using hcache⟩
  · exact absurd ⟨_, rfl, rfl, by simp [hp]⟩ hfail
  · exact absurd ⟨_, rfl, rfl, by simp [hp]⟩ hfail
  · exact ⟨State.afterTurn_masterId s, State.afterTurn_slaveId s, fun hno => absurd hp hno⟩

/-- Settles O48: of the five things a step can do, only the read at a reserved address answers no next
state. -/
theorem stepNeverFaults : Obligations.StepNeverFaults := by
  unfold Obligations.StepNeverFaults
  intro s
  rcases step_cases s with ⟨_, _, _, -, -, -, hread⟩ | ⟨a, ha, hreserved, hstop⟩ |
    ⟨_, _, _, _, _, -, -, -, -, -, hissue⟩ | ⟨_, -, -, -, hrefuse⟩ | ⟨-, -, hengine⟩
  · exact .inl ⟨_, hread⟩
  · exact .inr ⟨a, ha, hreserved, hstop⟩
  · exact .inl ⟨_, hissue⟩
  · exact .inl ⟨_, hrefuse⟩
  · exact .inl ⟨_, hengine⟩

end Sys2Proof.Proofs
end

section
/-! PROOFS of the family 70_reset_and_hazards: what construction leaves in the engine. -/

namespace Sys2Proof.Machine

/-! ## The cache right after reset (70_reset R320) -/

/-- The cache has no initial value (10_state R23): no group is written until a frame is decoded
into it. -/
@[simp] theorem State.reset_written (k : Kind) : State.reset.written k = false := by
  cases k <;> rfl

end Sys2Proof.Machine

namespace Sys2Proof.Proofs

open Sys2Proof Sys2Proof.Machine

/-- Settles O12: the four groups by `State.reset_written`, and every other part is a field that
construction assigns or a view of one (BUSY of PHASE, RES_TAG of RESULT). -/
theorem resetLeavesEngineIdle : Obligations.ResetLeavesEngineIdle := by
  unfold Obligations.ResetLeavesEngineIdle
  exact ⟨rfl, rfl, rfl, rfl, State.reset_written, rfl⟩

end Sys2Proof.Proofs
end
